-- ==== Sys2Proof/Word.lean ====
section
/-! DEFINITION. The words of the tower field unit: the command word, the operand and result ports, and the
element of a tower level. -/

namespace Sys2Proof

/-- The command word `CMD` (`CMDLEN` = 16, rules R5 and R60). -/
abbrev CmdWord := BitVec 16

/-- The value on a data port `A`, `B` or `R` (`XLEN` = 128, rules R5 and R23). -/
abbrev PortWord := BitVec 128

/-- A level-`k` field element: a word of exactly `2^k` bits, every pattern valid (rules R30 and R90). -/
abbrev Elem (k : Nat) := BitVec (2 ^ k)

end Sys2Proof
end

