-- ==== Sys2Proof/Config.lean ====
section
/-! DEFINITION. What an implementation fixes: the parameters of rule R5, and the free values of the unit. -/

namespace Sys2Proof

/-- `KMAX`, the highest tower level (rule R5). -/
def Config.kmax : Nat := 7

/-- `LATENCY(op, k)` (rule R5, OPEN). It may depend on OP and LVL and never on operand values, which its type
says (rule R238). No definition of the model reads it: timing is not architectural (rule R237, decision D19). -/
opaque Config.latency : (op : BitVec 4) → (lvl : BitVec 3) → Nat

/-- How many command ports there are beyond the first; open (rule R5, decision D21). -/
opaque Config.extraPorts : Nat

/-- `N_PORTS` ≥ 1 (rule R5). -/
def Config.nPorts : Nat := Config.extraPorts + 1

/-- A physical organisation of the lookup tables of one level (rule R52, U10): in full, nibble-packed, as an
exponent and logarithm pair, as logic, or any other, under a number. -/
inductive TableOrg where
  | full
  | nibblePacked
  | expLog
  | logic
  | other (n : Nat)
  deriving DecidableEq, Repr, Inhabited

/-- `TABLE_ORG`, for each table level (rule R5, OPEN, decision D22). Whatever it is, it realises the functions of the
tables, so no definition of the model reads it (rule R52; assumption log 8). -/
opaque Config.tableOrg : (level : Nat) → TableOrg

/-- `HANDSHAKE`: which valid and ready protocol a clocked wrapper has, as a number (rule R5, OPEN, decision D26). It
lies outside the functional model, so no definition reads it (U14; assumption log 8). -/
opaque Config.handshake : Nat

/-- FREE VALUE: what port `R` shows while no response has been given, whatever the host drives on `CMD`, `A`
and `B` at that moment (rules R33 and R230, U5 of `93_implementation_defined.md`; assumption log 3). -/
opaque Config.undrivenR : CmdWord → PortWord → PortWord → PortWord

/-- FREE VALUE: what port `STATUS` shows while no response has been given (rules R33 and R230, U5; assumption
log 3). -/
opaque Config.undrivenStatus : CmdWord → PortWord → PortWord → BitVec 2

end Sys2Proof
end

