-- ==== Sys2Proof/Syntax.lean ====
section
/-! DEFINITION. The commands of the tower field unit: one constructor per row of the opcode table, that is one
per legal pair (OP, LVL) of rule R65. The number in a name is the width `2^LVL` in bits. -/

namespace Sys2Proof

/-- A command. Only `MULP` carries an operand in the command word: the immediate `iota` (rule R63). -/
inductive Instr where
  -- CONS: construct and extract; operands A (rule R96)
  | cons1
  | cons2
  | cons4
  | cons8
  | cons16
  | cons32
  | cons64
  | cons128
  -- ADD: field addition; operands A, B (rule R100)
  | add1
  | add2
  | add4
  | add8
  | add16
  | add32
  | add64
  | add128
  -- MUL: field multiplication; operands A, B (rule R171)
  | mul1
  | mul2
  | mul4
  | mul8
  | mul16
  | mul32
  | mul64
  | mul128
  -- SQR: field squaring; operands A (rule R172)
  | sqr1
  | sqr2
  | sqr4
  | sqr8
  | sqr16
  | sqr32
  | sqr64
  | sqr128
  -- MULA: multiplication by the level's generator; operands A (rule R173)
  | mula1
  | mula2
  | mula4
  | mula8
  | mula16
  | mula32
  | mula64
  | mula128
  -- INV: inverse or zero; operands A (rule R174)
  | inv1
  | inv2
  | inv4
  | inv8
  | inv16
  | inv32
  | inv64
  | inv128
  -- MULP: multiplication by the generator of level iota; operands A, #iota (rule R195)
  | mulp1 (iota : Nat)
  | mulp2 (iota : Nat)
  | mulp4 (iota : Nat)
  | mulp8 (iota : Nat)
  | mulp16 (iota : Nat)
  | mulp32 (iota : Nat)
  | mulp64 (iota : Nat)
  | mulp128 (iota : Nat)
  -- HI: high half; operands A (rule R97)
  | hi2
  | hi4
  | hi8
  | hi16
  | hi32
  | hi64
  | hi128
  -- LO: low half; operands A (rule R98)
  | lo2
  | lo4
  | lo8
  | lo16
  | lo32
  | lo64
  | lo128
  -- JOIN: recompose from halves; operands A high, B low (rule R99)
  | join2
  | join4
  | join8
  | join16
  | join32
  | join64
  | join128
  deriving DecidableEq, Repr

end Sys2Proof
end

