-- ==== Sys2Proof/WellFormed.lean ====
section
/-! DEFINITION. Which commands can be written down: the immediate `iota` of `MULP` has 4 bits (rules R61 and
R63). An `iota` above the level is well formed; it is refused at execution (rule R68). -/

namespace Sys2Proof

/-- `iota` fits the 4-bit field `IOTA` (rule R63). -/
def iotaFits (iota : Nat) : Bool := decide (iota < 16)

/-- The command has an encoding. -/
def Instr.wellFormed : Instr → Bool
  | .cons1 => true
  | .cons2 => true
  | .cons4 => true
  | .cons8 => true
  | .cons16 => true
  | .cons32 => true
  | .cons64 => true
  | .cons128 => true
  | .add1 => true
  | .add2 => true
  | .add4 => true
  | .add8 => true
  | .add16 => true
  | .add32 => true
  | .add64 => true
  | .add128 => true
  | .mul1 => true
  | .mul2 => true
  | .mul4 => true
  | .mul8 => true
  | .mul16 => true
  | .mul32 => true
  | .mul64 => true
  | .mul128 => true
  | .sqr1 => true
  | .sqr2 => true
  | .sqr4 => true
  | .sqr8 => true
  | .sqr16 => true
  | .sqr32 => true
  | .sqr64 => true
  | .sqr128 => true
  | .mula1 => true
  | .mula2 => true
  | .mula4 => true
  | .mula8 => true
  | .mula16 => true
  | .mula32 => true
  | .mula64 => true
  | .mula128 => true
  | .inv1 => true
  | .inv2 => true
  | .inv4 => true
  | .inv8 => true
  | .inv16 => true
  | .inv32 => true
  | .inv64 => true
  | .inv128 => true
  | .mulp1 iota => iotaFits iota
  | .mulp2 iota => iotaFits iota
  | .mulp4 iota => iotaFits iota
  | .mulp8 iota => iotaFits iota
  | .mulp16 iota => iotaFits iota
  | .mulp32 iota => iotaFits iota
  | .mulp64 iota => iotaFits iota
  | .mulp128 iota => iotaFits iota
  | .hi2 => true
  | .hi4 => true
  | .hi8 => true
  | .hi16 => true
  | .hi32 => true
  | .hi64 => true
  | .hi128 => true
  | .lo2 => true
  | .lo4 => true
  | .lo8 => true
  | .lo16 => true
  | .lo32 => true
  | .lo64 => true
  | .lo128 => true
  | .join2 => true
  | .join4 => true
  | .join8 => true
  | .join16 => true
  | .join32 => true
  | .join64 => true
  | .join128 => true

end Sys2Proof
end

