-- ==== Sys2Proof/Decode.lean ====
section
/-! DEFINITION. The command word: its fields, the decoder (total on all 65536 words, refusing by name), the
encoder, and the name of a command in the notation of rule R69. -/

namespace Sys2Proof

/-- The ten operations of rule R65. -/
inductive Op where
  | cons | add | mul | sqr | mula | inv | mulp | hi | lo | join
  deriving DecidableEq, Repr

/-- The value of the field `OP` (rule R65, decision D6). -/
def Op.code : Op → Nat
  | .cons => 0x0
  | .add => 0x1
  | .mul => 0x2
  | .sqr => 0x3
  | .mula => 0x4
  | .inv => 0x5
  | .mulp => 0x6
  | .hi => 0x7
  | .lo => 0x8
  | .join => 0x9

/-- The operation an `OP` value names; 0xA to 0xF are reserved (rules R65 and R67). -/
def Op.ofCode : Nat → Option Op
  | 0x0 => some .cons
  | 0x1 => some .add
  | 0x2 => some .mul
  | 0x3 => some .sqr
  | 0x4 => some .mula
  | 0x5 => some .inv
  | 0x6 => some .mulp
  | 0x7 => some .hi
  | 0x8 => some .lo
  | 0x9 => some .join
  | _ => none

/-- The mnemonic of rule R65. -/
def Op.name : Op → String
  | .cons => "CONS"
  | .add => "ADD"
  | .mul => "MUL"
  | .sqr => "SQR"
  | .mula => "MULA"
  | .inv => "INV"
  | .mulp => "MULP"
  | .hi => "HI"
  | .lo => "LO"
  | .join => "JOIN"

/-- `OP = CMD[3:0]` (rule R61). -/
def opField (w : CmdWord) : BitVec 4 := w.extractLsb' 0 4

/-- `LVL = CMD[6:4]` (rules R61 and R62). -/
def lvlField (w : CmdWord) : BitVec 3 := w.extractLsb' 4 3

/-- `IOTA = CMD[10:7]`, unsigned, used as it stands (rules R61 and R63). -/
def iotaField (w : CmdWord) : BitVec 4 := w.extractLsb' 7 4

/-- `RSV = CMD[15:11]` (rule R61). -/
def rsvField (w : CmdWord) : BitVec 5 := w.extractLsb' 11 5

/-- Why a word is no command (rule R66). All four reasons share the one code `IllegalCommand` at the port, so
which of them fired cannot be observed (rule R206, U17). -/
inductive DecodeError where
  /-- `RSV` is not 0: clause (a). -/
  | reservedBits
  /-- `OP` is in 0xA..0xF: clause (b). -/
  | reservedOp
  /-- `IOTA` is not 0 in a command other than `MULP`: clause (c). -/
  | iotaOutsideMulp
  /-- `HI`, `LO` or `JOIN` at level 0, which has no halves: clause (d). -/
  | noHalvesAtLevelZero
  deriving DecidableEq, Repr

/-- `CONS` at level `k` (rule R96). -/
def consAt : Nat → Option Instr
  | 0 => some .cons1
  | 1 => some .cons2
  | 2 => some .cons4
  | 3 => some .cons8
  | 4 => some .cons16
  | 5 => some .cons32
  | 6 => some .cons64
  | 7 => some .cons128
  | _ => none

/-- `ADD` at level `k` (rule R100). -/
def addAt : Nat → Option Instr
  | 0 => some .add1
  | 1 => some .add2
  | 2 => some .add4
  | 3 => some .add8
  | 4 => some .add16
  | 5 => some .add32
  | 6 => some .add64
  | 7 => some .add128
  | _ => none

/-- `MUL` at level `k` (rule R171). -/
def mulAt : Nat → Option Instr
  | 0 => some .mul1
  | 1 => some .mul2
  | 2 => some .mul4
  | 3 => some .mul8
  | 4 => some .mul16
  | 5 => some .mul32
  | 6 => some .mul64
  | 7 => some .mul128
  | _ => none

/-- `SQR` at level `k` (rule R172). -/
def sqrAt : Nat → Option Instr
  | 0 => some .sqr1
  | 1 => some .sqr2
  | 2 => some .sqr4
  | 3 => some .sqr8
  | 4 => some .sqr16
  | 5 => some .sqr32
  | 6 => some .sqr64
  | 7 => some .sqr128
  | _ => none

/-- `MULA` at level `k` (rule R173). -/
def mulaAt : Nat → Option Instr
  | 0 => some .mula1
  | 1 => some .mula2
  | 2 => some .mula4
  | 3 => some .mula8
  | 4 => some .mula16
  | 5 => some .mula32
  | 6 => some .mula64
  | 7 => some .mula128
  | _ => none

/-- `INV` at level `k` (rule R174). -/
def invAt : Nat → Option Instr
  | 0 => some .inv1
  | 1 => some .inv2
  | 2 => some .inv4
  | 3 => some .inv8
  | 4 => some .inv16
  | 5 => some .inv32
  | 6 => some .inv64
  | 7 => some .inv128
  | _ => none

/-- `MULP` at level `k` (rule R195). -/
def mulpAt (iota : Nat) : Nat → Option Instr
  | 0 => some (.mulp1 iota)
  | 1 => some (.mulp2 iota)
  | 2 => some (.mulp4 iota)
  | 3 => some (.mulp8 iota)
  | 4 => some (.mulp16 iota)
  | 5 => some (.mulp32 iota)
  | 6 => some (.mulp64 iota)
  | 7 => some (.mulp128 iota)
  | _ => none

/-- `HI` at level `k` ≥ 1 (rule R97). -/
def hiAt : Nat → Option Instr
  | 1 => some .hi2
  | 2 => some .hi4
  | 3 => some .hi8
  | 4 => some .hi16
  | 5 => some .hi32
  | 6 => some .hi64
  | 7 => some .hi128
  | _ => none

/-- `LO` at level `k` ≥ 1 (rule R98). -/
def loAt : Nat → Option Instr
  | 1 => some .lo2
  | 2 => some .lo4
  | 3 => some .lo8
  | 4 => some .lo16
  | 5 => some .lo32
  | 6 => some .lo64
  | 7 => some .lo128
  | _ => none

/-- `JOIN` at level `k` ≥ 1 (rule R99). -/
def joinAt : Nat → Option Instr
  | 1 => some .join2
  | 2 => some .join4
  | 3 => some .join8
  | 4 => some .join16
  | 5 => some .join32
  | 6 => some .join64
  | 7 => some .join128
  | _ => none

/-- The command with these fields, if there is one (rule R65). -/
def instrOf (op : Op) (k iota : Nat) : Option Instr :=
  match op with
  | .cons => consAt k
  | .add => addAt k
  | .mul => mulAt k
  | .sqr => sqrAt k
  | .mula => mulaAt k
  | .inv => invAt k
  | .mulp => mulpAt iota k
  | .hi => hiAt k
  | .lo => loAt k
  | .join => joinAt k

/-- Decode a command word. The checks stand in the order of rule R71. -/
def decode (w : CmdWord) : Except DecodeError Instr :=
  if rsvField w ≠ 0 then .error .reservedBits
  else
    match Op.ofCode (opField w).toNat with
    | none => .error .reservedOp
    | some op =>
      if op ≠ .mulp ∧ iotaField w ≠ 0 then .error .iotaOutsideMulp
      else
        match instrOf op (lvlField w).toNat (iotaField w).toNat with
        | none => .error .noHalvesAtLevelZero
        | some i => .ok i

/-- The operation of a command. -/
def Instr.op : Instr → Op
  | .cons1 => .cons
  | .cons2 => .cons
  | .cons4 => .cons
  | .cons8 => .cons
  | .cons16 => .cons
  | .cons32 => .cons
  | .cons64 => .cons
  | .cons128 => .cons
  | .add1 => .add
  | .add2 => .add
  | .add4 => .add
  | .add8 => .add
  | .add16 => .add
  | .add32 => .add
  | .add64 => .add
  | .add128 => .add
  | .mul1 => .mul
  | .mul2 => .mul
  | .mul4 => .mul
  | .mul8 => .mul
  | .mul16 => .mul
  | .mul32 => .mul
  | .mul64 => .mul
  | .mul128 => .mul
  | .sqr1 => .sqr
  | .sqr2 => .sqr
  | .sqr4 => .sqr
  | .sqr8 => .sqr
  | .sqr16 => .sqr
  | .sqr32 => .sqr
  | .sqr64 => .sqr
  | .sqr128 => .sqr
  | .mula1 => .mula
  | .mula2 => .mula
  | .mula4 => .mula
  | .mula8 => .mula
  | .mula16 => .mula
  | .mula32 => .mula
  | .mula64 => .mula
  | .mula128 => .mula
  | .inv1 => .inv
  | .inv2 => .inv
  | .inv4 => .inv
  | .inv8 => .inv
  | .inv16 => .inv
  | .inv32 => .inv
  | .inv64 => .inv
  | .inv128 => .inv
  | .mulp1 _ => .mulp
  | .mulp2 _ => .mulp
  | .mulp4 _ => .mulp
  | .mulp8 _ => .mulp
  | .mulp16 _ => .mulp
  | .mulp32 _ => .mulp
  | .mulp64 _ => .mulp
  | .mulp128 _ => .mulp
  | .hi2 => .hi
  | .hi4 => .hi
  | .hi8 => .hi
  | .hi16 => .hi
  | .hi32 => .hi
  | .hi64 => .hi
  | .hi128 => .hi
  | .lo2 => .lo
  | .lo4 => .lo
  | .lo8 => .lo
  | .lo16 => .lo
  | .lo32 => .lo
  | .lo64 => .lo
  | .lo128 => .lo
  | .join2 => .join
  | .join4 => .join
  | .join8 => .join
  | .join16 => .join
  | .join32 => .join
  | .join64 => .join
  | .join128 => .join

/-- The tower level `LVL` of a command (rule R62). -/
def Instr.level : Instr → Nat
  | .cons1 => 0
  | .cons2 => 1
  | .cons4 => 2
  | .cons8 => 3
  | .cons16 => 4
  | .cons32 => 5
  | .cons64 => 6
  | .cons128 => 7
  | .add1 => 0
  | .add2 => 1
  | .add4 => 2
  | .add8 => 3
  | .add16 => 4
  | .add32 => 5
  | .add64 => 6
  | .add128 => 7
  | .mul1 => 0
  | .mul2 => 1
  | .mul4 => 2
  | .mul8 => 3
  | .mul16 => 4
  | .mul32 => 5
  | .mul64 => 6
  | .mul128 => 7
  | .sqr1 => 0
  | .sqr2 => 1
  | .sqr4 => 2
  | .sqr8 => 3
  | .sqr16 => 4
  | .sqr32 => 5
  | .sqr64 => 6
  | .sqr128 => 7
  | .mula1 => 0
  | .mula2 => 1
  | .mula4 => 2
  | .mula8 => 3
  | .mula16 => 4
  | .mula32 => 5
  | .mula64 => 6
  | .mula128 => 7
  | .inv1 => 0
  | .inv2 => 1
  | .inv4 => 2
  | .inv8 => 3
  | .inv16 => 4
  | .inv32 => 5
  | .inv64 => 6
  | .inv128 => 7
  | .mulp1 _ => 0
  | .mulp2 _ => 1
  | .mulp4 _ => 2
  | .mulp8 _ => 3
  | .mulp16 _ => 4
  | .mulp32 _ => 5
  | .mulp64 _ => 6
  | .mulp128 _ => 7
  | .hi2 => 1
  | .hi4 => 2
  | .hi8 => 3
  | .hi16 => 4
  | .hi32 => 5
  | .hi64 => 6
  | .hi128 => 7
  | .lo2 => 1
  | .lo4 => 2
  | .lo8 => 3
  | .lo16 => 4
  | .lo32 => 5
  | .lo64 => 6
  | .lo128 => 7
  | .join2 => 1
  | .join4 => 2
  | .join8 => 3
  | .join16 => 4
  | .join32 => 5
  | .join64 => 6
  | .join128 => 7

/-- The immediate of a command; 0 in every command other than `MULP` (rule R61). -/
def Instr.iota : Instr → Nat
  | .cons1 => 0
  | .cons2 => 0
  | .cons4 => 0
  | .cons8 => 0
  | .cons16 => 0
  | .cons32 => 0
  | .cons64 => 0
  | .cons128 => 0
  | .add1 => 0
  | .add2 => 0
  | .add4 => 0
  | .add8 => 0
  | .add16 => 0
  | .add32 => 0
  | .add64 => 0
  | .add128 => 0
  | .mul1 => 0
  | .mul2 => 0
  | .mul4 => 0
  | .mul8 => 0
  | .mul16 => 0
  | .mul32 => 0
  | .mul64 => 0
  | .mul128 => 0
  | .sqr1 => 0
  | .sqr2 => 0
  | .sqr4 => 0
  | .sqr8 => 0
  | .sqr16 => 0
  | .sqr32 => 0
  | .sqr64 => 0
  | .sqr128 => 0
  | .mula1 => 0
  | .mula2 => 0
  | .mula4 => 0
  | .mula8 => 0
  | .mula16 => 0
  | .mula32 => 0
  | .mula64 => 0
  | .mula128 => 0
  | .inv1 => 0
  | .inv2 => 0
  | .inv4 => 0
  | .inv8 => 0
  | .inv16 => 0
  | .inv32 => 0
  | .inv64 => 0
  | .inv128 => 0
  | .mulp1 iota => iota
  | .mulp2 iota => iota
  | .mulp4 iota => iota
  | .mulp8 iota => iota
  | .mulp16 iota => iota
  | .mulp32 iota => iota
  | .mulp64 iota => iota
  | .mulp128 iota => iota
  | .hi2 => 0
  | .hi4 => 0
  | .hi8 => 0
  | .hi16 => 0
  | .hi32 => 0
  | .hi64 => 0
  | .hi128 => 0
  | .lo2 => 0
  | .lo4 => 0
  | .lo8 => 0
  | .lo16 => 0
  | .lo32 => 0
  | .lo64 => 0
  | .lo128 => 0
  | .join2 => 0
  | .join4 => 0
  | .join8 => 0
  | .join16 => 0
  | .join32 => 0
  | .join64 => 0
  | .join128 => 0

/-- The one command word of a command: `(iota << 7) | (k << 4) | op` (rule R68). -/
def encode (i : Instr) : CmdWord :=
  BitVec.ofNat 16 ((i.iota <<< 7) ||| (i.level <<< 4) ||| i.op.code)

/-- `MNEMONIC.<w>` with the width in decimal (rule R69). -/
def Instr.mnemonic (i : Instr) : String := i.op.name ++ "." ++ toString (2 ^ i.level)

/-- The command word whose low `nbits` bits are those of `w` and whose other bits are 0, bit 0 the least
significant. `CMD` is a port: wire `i` carries bit `i`, and there is no byte order (rule R42). -/
def tableWord (nbits w : Nat) : CmdWord := BitVec.ofNat 16 (w % 2 ^ nbits)

/-- The command the decoder reads from the word `w` of the opcode table. -/
def decodeTableWord (nbits w : Nat) : Option Instr :=
  match decode (tableWord nbits w) with
  | .ok i => some i
  | .error _ => none

end Sys2Proof
end

