-- ==== Sys2Proof/Machine/State.lean ====
section
/-! DEFINITION. The state of the machine: the input ports of rule R23 as the host drives them, and the history of
the commands sampled and the responses given. The unit itself keeps nothing between commands (rule R20). -/

namespace Sys2Proof.Machine

/-- The two error kinds of rule R200. -/
inductive ErrorKind where
  /-- `MULP` with `iota` above the level (rule R201). -/
  | extensionDegreeMismatch
  /-- A word that names no command (rule R202). -/
  | illegalCommand
  deriving DecidableEq, Repr

/-- A response: a result, or an error, which carries no result (rule R205, U1, U6). -/
inductive Response where
  | ok (r : PortWord)
  | error (e : ErrorKind)
  deriving DecidableEq, Repr

/-- What the host puts on the input ports (rule R23). -/
structure Command where
  cmd : CmdWord
  a : PortWord
  b : PortWord
  deriving DecidableEq, Repr

/-- One event: a sampled command and the response to it (rules R20 and R32). -/
structure Event where
  command : Command
  response : Response
  deriving DecidableEq, Repr

structure State where
  /-- Port `CMD`, as the host drives it (rule R23). -/
  cmd : CmdWord
  /-- Port `A`, as the host drives it (rule R23). -/
  a : PortWord
  /-- Port `B`, as the host drives it (rule R23). -/
  b : PortWord
  /-- The model's record of the commands sampled so far, newest first (rule R20, decision D27). No command
  reads it. The output ports `R` and `STATUS` show its newest response. -/
  history : List Event
  deriving DecidableEq, Repr

/-- Nothing stops the unit: both error kinds are reported in a response, after which the unit goes on (rules R204
and R205). So there is no fault to raise. -/
inductive Fault where
  deriving DecidableEq, Repr

/-- The reasons to give a command no meaning. -/
inductive Refusal where
  /-- Raised only by an arm of `exec` for a command that has no meaning yet; no arm does. Safe: the model stops
  where the unit answers. -/
  | notModelled (mnemonic : String)
  deriving DecidableEq, Repr

/-- The machine right after reset: no response has been given (rules R33 and R230). The unit has nothing to
reset; the input wires are the host's, and the value they have here is a DESIGN CHOICE (assumption log 2). -/
def State.reset : State where
  cmd := 0
  a := 0
  b := 0
  history := []

end Sys2Proof.Machine
end

