-- ==== Sys2Proof/Machine/Ops.lean ====
section
/-! DEFINITION. The named operations on the machine's state: presenting and sampling a command, giving a response,
completing with a result, and raising an error. -/

namespace Sys2Proof.Machine

/-- The host puts a command on the input ports (rule R13). -/
def State.present (c : Command) (s : State) : State :=
  { s with cmd := c.cmd, a := c.a, b := c.b }

/-- One sampling of the three input ports (rule R23). -/
def State.sample (s : State) : Command := ⟨s.cmd, s.a, s.b⟩

/-- Give the response to the command on the input ports. The operands are not touched (rule R31) and earlier
responses stay as they were (rule R205). -/
def State.respond (s : State) (resp : Response) : State :=
  { s with history := ⟨s.sample, resp⟩ :: s.history }

/-- `R <- zext_128(r)`, `STATUS <- 0`: a result of level `k` is zero-extended to the port (rules R64 and R71). -/
def complete {k : Nat} (r : Elem k) (s : State) : Host.Outcome State Fault Refusal :=
  .next (s.respond (.ok (r.setWidth 128)))

/-- `raise E`: the error is reported in the response to the command that caused it, and nothing else happens. No
state is saved, no mode changes, no control is transferred and nothing is sticky (rules R205 and R208). There is
no return from it: the next command runs as it would have otherwise (rule R209). -/
def raise (e : ErrorKind) (s : State) : Host.Outcome State Fault Refusal :=
  .next (s.respond (.error e))

end Sys2Proof.Machine
end

