-- ==== Sys2Proof/Machine/Flags.lean ====
section
/-! DEFINITION. The output ports. The unit keeps no flag (rule R25): the one condition a command reports is the
error kind on `STATUS`, in its own response. -/

namespace Sys2Proof.Machine

/-- The `STATUS` code of an error (rule R200, decision D8). -/
def ErrorKind.code : ErrorKind → BitVec 2
  | .extensionDegreeMismatch => 1
  | .illegalCommand => 2

/-- `STATUS` of a response: 0 is `OK`; 3 is never produced (rule R200, U1). -/
def Response.status : Response → BitVec 2
  | .ok _ => 0
  | .error e => e.code

/-- `R` of a response: 0 when `STATUS` is not 0 (rules R23 and R205, decision D10). -/
def Response.r : Response → PortWord
  | .ok r => r
  | .error _ => 0

/-- The newest response, if one has been given. -/
def State.lastResponse (s : State) : Option Response := s.history.head?.map Event.response

/-- Port `R`. It is defined only as part of a response; before the first one it is a FREE VALUE (rule R33, U5). -/
def State.portR (s : State) : PortWord :=
  match s.lastResponse with
  | some resp => resp.r
  | none => Config.undrivenR s.cmd s.a s.b

/-- Port `STATUS`. It is defined only as part of a response; before the first one it is a FREE VALUE (rule R33,
U5). -/
def State.portStatus (s : State) : BitVec 2 :=
  match s.lastResponse with
  | some resp => resp.status
  | none => Config.undrivenStatus s.cmd s.a s.b

end Sys2Proof.Machine
end

