-- ==== Sys2Proof/Machine/Tables.lean ====
section
/-! DEFINITION. The constant tables of the unit (rule R21): `MUL_k`, `SQUARE_k`, `INVERSE_k` and `ALPHA_MAP_k` for
the levels 1, 2 and 3, and the exponent and logarithm tables that rule R131 gives as an aid. They are constants,
not state (rules R10 and R231). Each row is one numeral that reads as the row printed in the spec. -/

namespace Sys2Proof.Machine

/-- `Tbl(T, i)`, the entry at index `i` of a table (rule R41). A row holds `perRow` entries of `digit` bits, the
first entry the most significant. -/
def Tables.lookup (digit perRow width : Nat) (rows : List Nat) (i : Nat) : BitVec width :=
  BitVec.ofNat width (rows.getD (i / perRow) 0 >>> (digit * (perRow - 1 - i % perRow)))

/-- The index of the pair (a, b) in a multiplication table: `(a << w) | b` (rule R41). -/
def Tables.pairIndex (w : Nat) (a b : BitVec w) : Nat := a.toNat * 2 ^ w + b.toNat

/-- The rows of `MUL_1` (rule R126), one hexadecimal digit an entry. -/
def Tables.mul1Rows : List Nat := [0x0000, 0x0123, 0x0231, 0x0312]

/-- `MUL_1[a][b]`. -/
def Tables.mul1 (a b : BitVec 2) : BitVec 2 := lookup 4 4 2 mul1Rows (pairIndex 2 a b)

/-- `SQUARE_1[a]` (rule R126). -/
def Tables.square1 (a : BitVec 2) : BitVec 2 := lookup 4 4 2 [0x0132] a.toNat

/-- `INVERSE_1[a]` (rule R126). -/
def Tables.inverse1 (a : BitVec 2) : BitVec 2 := lookup 4 4 2 [0x0132] a.toNat

/-- `ALPHA_MAP_1[a]` (rule R126). -/
def Tables.alphaMap1 (a : BitVec 2) : BitVec 2 := lookup 4 4 2 [0x0231] a.toNat

/-- The rows of `MUL_2` (rule R127), row `a`, column `b`. -/
def Tables.mul2Rows : List Nat :=
  [0x0000000000000000,
   0x0123456789ABCDEF,
   0x02318AB9CEFD4675,
   0x0312CFDE47568B9A,
   0x048C9D15EA6273FB,
   0x05AFD87263C9BE14,
   0x06BD17AC249F358E,
   0x079E52CBAD34F861,
   0x08C4E62A7FB3915D,
   0x09E7A34DF6185CB2,
   0x0AF56C93B14ED728,
   0x0BD629F438E51AC7,
   0x0C487B3F95D1E2A6,
   0x0D6B3E581C7A2F49,
   0x0E79F1865B2CA4D3,
   0x0F5AB4E1D287693C]

/-- `MUL_2[a][b]`. -/
def Tables.mul2 (a b : BitVec 4) : BitVec 4 := lookup 4 16 4 mul2Rows (pairIndex 4 a b)

/-- `SQUARE_2[a]` (rule R127). -/
def Tables.square2 (a : BitVec 4) : BitVec 4 := lookup 4 16 4 [0x013298AB7645EFDC] a.toNat

/-- `INVERSE_2[a]` (rule R127). -/
def Tables.inverse2 (a : BitVec 4) : BitVec 4 := lookup 4 16 4 [0x01326E4FDA9CB857] a.toNat

/-- `ALPHA_MAP_2[a]` (rule R127). -/
def Tables.alphaMap2 (a : BitVec 4) : BitVec 4 := lookup 4 16 4 [0x048C9D15EA6273FB] a.toNat

/-- The rows of `SQUARE_3` (rule R128). -/
def Tables.square3Rows : List Nat :=
  [0x0001030209080A0B070604050E0F0D0C,
   0x4140424348494B4A464745444F4E4C4D,
   0xC3C2C0C1CACBC9C8C4C5C7C6CDCCCECF,
   0x828381808B8A8889858486878C8D8F8E,
   0xA9A8AAABA0A1A3A2AEAFADACA7A6A4A5,
   0xE8E9EBEAE1E0E2E3EFEEECEDE6E7E5E4,
   0x6A6B6968636260616D6C6E6F64656766,
   0x2B2A2829222321202C2D2F2E25242627,
   0x575654555E5F5D5C5051535259585A5B,
   0x161715141F1E1C1D1110121318191B1A,
   0x949597969D9C9E9F939290919A9B9998,
   0xD5D4D6D7DCDDDFDED2D3D1D0DBDAD8D9,
   0xFEFFFDFCF7F6F4F5F9F8FAFBF0F1F3F2,
   0xBFBEBCBDB6B7B5B4B8B9BBBAB1B0B2B3,
   0x3D3C3E3F343537363A3B393833323031,
   0x7C7D7F7E757476777B7A787972737170]

/-- `SQUARE_3[a]`. -/
def Tables.square3 (a : BitVec 8) : BitVec 8 := lookup 8 16 8 square3Rows a.toNat

/-- The rows of `INVERSE_3` (rule R129). -/
def Tables.inverse3Rows : List Nat :=
  [0x00010302060E040F0D0A090C0B080507,
   0x1467947B10669E7ED281274BD18F2F42,
   0x3CE6DE7CB3C14A1A30E9DD79B1C6431E,
   0x28E89DB963398DC2623583C520E797BB,
   0x61481F2EACC8BC564160261BCFAA5BBE,
   0xEF736D5EF78647BD88FCBF4E76E0536C,
   0x49403834E4EB15118B85AFA95F529892,
   0xFBB5EE51B7F05CE1DC2B951323DF179F,
   0xD319C43A8A6955F658FD8468C336D01D,
   0xA6F36F99127ABA3E6E93A0F8B832167F,
   0x9AF9E2DBEDD890F2AE6B4DCE44C9A86A,
   0xC72CC024FA71F1749C33963F46574F5A,
   0xB225378C823B2DB045ADD7FFF4D4AB4C,
   0x8E1C1880CDF5FECAA5ECE3A3782A227D,
   0x5D77A2DA64EA213D3129E565D9A47250,
   0x75B6A791CCD587549BA1B4705989D6CB]

/-- `INVERSE_3[a]`. -/
def Tables.inverse3 (a : BitVec 8) : BitVec 8 := lookup 8 16 8 inverse3Rows a.toNat

/-- The rows of `ALPHA_MAP_3` (rule R130). -/
def Tables.alphaMap3Rows : List Nat :=
  [0x00102030405060708090A0B0C0D0E0F0,
   0x4151617101112131C1D1E1F18191A1B1,
   0x8292A2B2C2D2E2F20212223242526272,
   0xC3D3E3F38393A3B34353637303132333,
   0x9484B4A4D4C4F4E41404342454447464,
   0xD5C5F5E59585B5A55545756515053525,
   0x16063626564676669686B6A6D6C6F6E6,
   0x5747776717073727D7C7F7E79787B7A7,
   0xE8F8C8D8A8B888986878485828380818,
   0xA9B98999E9F9C9D92939091969794959,
   0x6A7A4A5A2A3A0A1AEAFACADAAABA8A9A,
   0x2B3B0B1B6B7B4B5BABBB8B9BEBFBCBDB,
   0x7C6C5C4C3C2C1C0CFCECDCCCBCAC9C8C,
   0x3D2D1D0D7D6D5D4DBDAD9D8DFDEDDDCD,
   0xFEEEDECEBEAE9E8E7E6E5E4E3E2E1E0E,
   0xBFAF9F8FFFEFDFCF3F2F1F0F7F6F5F4F]

/-- `ALPHA_MAP_3[a]`. -/
def Tables.alphaMap3 (a : BitVec 8) : BitVec 8 := lookup 8 16 8 alphaMap3Rows a.toNat

/-- `MUL_3[a][b]`. The spec prints no more than three rows of this table and fixes all of it from `MUL_2` and
`ALPHA_MAP_2` (rules R123 and R131). -/
def Tables.mul3 (a b : BitVec 8) : BitVec 8 :=
  let a1 := a.extractLsb' 4 4
  let a0 := a.extractLsb' 0 4
  let b1 := b.extractLsb' 4 4
  let b0 := b.extractLsb' 0 4
  let z0 := mul2 a0 b0
  let z2 := mul2 a1 b1
  let z0z2 := z0 ^^^ z2
  let z1 := mul2 (a0 ^^^ a1) (b0 ^^^ b1) ^^^ z0z2
  (z1 ^^^ alphaMap2 z2) ++ z0z2

/-- The rows of `EXP`, the powers of 0x13 (rule R131). Index 255 does not exist and stands as 00. -/
def Tables.expRows : List Nat :=
  [0x01134366AB8C60C691CA59B26A63F453,
   0x170FFABAEE87D6E06E2F684275E8EACB,
   0x4AF10CC87833D19E30E35CEDB5143D38,
   0x67B8CF066D1DAA9F23A03A463974FBA9,
   0xADE17D6C0EE9F9882C5A80A8BEA21BC7,
   0x82893F19E60332C2DD5648D08D7385F7,
   0x61D5D2ACF23E0AA565994EBD90D91AD4,
   0xC1EF949586C5A30884E422B3792092F8,
   0x9B6F3C2B24DE648A0DDB3B557A125025,
   0xCD27ECA6575B93EBD80997A74418F540,
   0x546951368E41472A379D022181BBFDC4,
   0xB04BE24FAED3BFB158A129055FDF77C9,
   0x6B70B735BC839A7C7F4D8F52044C9C11,
   0x62E71071A476DA28161CB9DC450BB626,
   0xFFE531F01F8B1E985DFEF67296B4077E,
   0x5ECC34AFC0FCD7F32D49C3CE152E7B00]

/-- `EXP[i]` for `i` ≤ 254. An aid, not part of the architecture (rule R131). -/
def Tables.exp (i : Nat) : BitVec 8 := lookup 8 16 8 expRows i

/-- The rows of `LOG` (rule R131). `LOG[0]` does not exist and stands as 00. -/
def Tables.logRows : List Nat :=
  [0x0000AA55CCBB33EE779966DD22884411,
   0xD2CF8D012DFCD8109D536E4ED935E6E4,
   0x7DAB7A38848FDF91D7BAA78348F8FD19,
   0x28E25625F2C3A3A82F3C3A8A822E6552,
   0x9FA51B029CDC3BA65AF920B1CDC96AB3,
   0x8EA2CB0FA08B5994B80A49952AE8F0BC,
   0x0660D00D866803301AA10CC043341881,
   0xC1D3EB5D3D1CD5BE247C8CFEC742EFC8,
   0x4AAC50C5785E7415475187E5055CA4CA,
   0x6C087E967273EC9AE769C680CEA92737,
   0x39B94D76D467939B4B3F36046340B4F3,
   0xB0B70B7BED2CDEC231DA13ADC46B4CB6,
   0xF47057FAAF75074F23BF091FF190FB32,
   0x5B2662B56F6116F6986DD689DB5885BD,
   0x1741B22979E154D11D451E97922B1471,
   0xE32164F70E9EEA5F7F46123EF5AEE9E0]

/-- `LOG[a]` for `a` other than 0. An aid, not part of the architecture (rule R131). -/
def Tables.log (a : BitVec 8) : Nat := (lookup 8 16 8 logRows a.toNat).toNat

end Sys2Proof.Machine
end

