-- ==== Sys2Proof/Machine/Tower.lean ====
section
/-! DEFINITION. The functions of rule R8 on elements: the decompose and recompose datapath, the level-0 field, the
table levels, the tower extension engine, and primitive multiplication. The body of an operation is chosen by the
level as in rule R170. -/

namespace Sys2Proof.Machine

/-- `hi_{k+1}(x) = x >> 2^k` (rule R91). -/
def Tower.hi {k : Nat} (x : Elem (k + 1)) : Elem k := x.extractLsb' (2 ^ k) (2 ^ k)

/-- `lo_{k+1}(x) = x & (2^(2^k) - 1)` (rule R91). -/
def Tower.lo {k : Nat} (x : Elem (k + 1)) : Elem k := x.extractLsb' 0 (2 ^ k)

/-- `join_{k+1}(hi, lo) = (hi << 2^k) | lo` (rule R92). -/
def Tower.join {k : Nat} (hi lo : Elem k) : Elem (k + 1) :=
  (hi.setWidth (2 ^ (k + 1)) <<< 2 ^ k) ||| lo.setWidth (2 ^ (k + 1))

/-- The subfield embedding of level `j` in level `k`: zero extension (rule R94). -/
def Tower.embed {j : Nat} (k : Nat) (y : Elem j) : Elem k := y.setWidth (2 ^ k)

/-- The level-`j` element at position `i` of a level-`k` element, counted from 0 at the least significant end
(rule R93). -/
def Tower.chunk (j : Nat) {k : Nat} (x : Elem k) (i : Nat) : Elem j := x.extractLsb' (i * 2 ^ j) (2 ^ j)

/-- The canonical generator `ALPHA_k`: 1 at level 0, `2^(2^(k-1))` above (rule R124). -/
def Tower.generator : (k : Nat) → Elem k
  | 0 => 1
  | k + 1 => BitVec.ofNat _ (2 ^ 2 ^ k)

/-- `add_k`: XOR at every level (rule R95). -/
def Tower.add (k : Nat) (a b : Elem k) : Elem k := a ^^^ b

/-- `alpha_k`, multiplication by the generator: level 0 by rule R115, levels 1 to 3 by table (rule R125), above by
the engine (rule R153). -/
def Tower.alpha : (k : Nat) → Elem k → Elem k
  | 0, a => a
  | 1, a => Tables.alphaMap1 a
  | 2, a => Tables.alphaMap2 a
  | 3, a => Tables.alphaMap3 a
  | k + 4, a => join (lo a ^^^ alpha (k + 3) (hi a)) (hi a)

/-- `sqr_k`: level 0 by rule R113, levels 1 to 3 by table (rule R125), above by the engine (rule R152). -/
def Tower.sqr : (k : Nat) → Elem k → Elem k
  | 0, a => a
  | 1, a => Tables.square1 a
  | 2, a => Tables.square2 a
  | 3, a => Tables.square3 a
  | k + 4, a =>
    let s0 := sqr (k + 3) (lo a)
    let s2 := sqr (k + 3) (hi a)
    join (alpha (k + 3) s2) (s0 ^^^ s2)

/-- `mul_k`: level 0 by rule R112, levels 1 to 3 by table (rule R125), above by the engine, with three
multiplications one level down (rule R151). -/
def Tower.mul : (k : Nat) → Elem k → Elem k → Elem k
  | 0, a, b => a &&& b
  | 1, a, b => Tables.mul1 a b
  | 2, a, b => Tables.mul2 a b
  | 3, a, b => Tables.mul3 a b
  | k + 4, a, b =>
    let z0 := mul (k + 3) (lo a) (lo b)
    let z2 := mul (k + 3) (hi a) (hi b)
    let z0z2 := z0 ^^^ z2
    let z1 := mul (k + 3) (lo a ^^^ hi a) (lo b ^^^ hi b) ^^^ z0z2
    join (z1 ^^^ alpha (k + 3) z2) z0z2

/-- `inv_k`, the inverse or zero: level 0 by rule R114, levels 1 to 3 by table (rules R122 and R125), above by the
engine (rule R154). -/
def Tower.inv : (k : Nat) → Elem k → Elem k
  | 0, a => a
  | 1, a => Tables.inverse1 a
  | 2, a => Tables.inverse2 a
  | 3, a => Tables.inverse3 a
  | k + 4, a =>
    if a = 0 then 0
    else
      let a0z1 := lo a ^^^ alpha (k + 3) (hi a)
      let delta := mul (k + 3) (lo a) a0z1 ^^^ sqr (k + 3) (hi a)
      let deltaInv := inv (k + 3) delta
      join (mul (k + 3) deltaInv (hi a)) (mul (k + 3) deltaInv a0z1)

/-- `mulp_k(x, iota)`: the product of `x` and the generator of level `iota` carried into level `k` (rule R190,
decisions D13 and D14). -/
def Tower.mulp (k : Nat) (x : Elem k) (iota : Nat) : Elem k :=
  mul k x (embed k (generator iota))

/-- The recursive form of `mulp_k` for `iota` ≤ `k`: the generator map of level `iota` on each level-`iota` chunk
(rule R194). The commands do not use it. -/
def Tower.mulpByHalves : (k : Nat) → Elem k → Nat → Elem k
  | 0, x, _ => alpha 0 x
  | k + 1, x, iota =>
    if iota = k + 1 then alpha (k + 1) x
    else join (mulpByHalves k (hi x) iota) (mulpByHalves k (lo x) iota)

end Sys2Proof.Machine
end

