-- ==== Sys2Proof/Machine/Operands.lean ====
section
/-! DEFINITION. The operand forms of rule R64: an operand is the low bits of its port, and whatever the port
holds above them is ignored, not checked. -/

namespace Sys2Proof.Machine

/-- `A[2^k - 1 : 0]` as a level-`k` element (rule R64). -/
def State.operandA (s : State) (k : Nat) : Elem k := s.a.setWidth (2 ^ k)

/-- `B[2^k - 1 : 0]` as a level-`k` element (rule R64). -/
def State.operandB (s : State) (k : Nat) : Elem k := s.b.setWidth (2 ^ k)

end Sys2Proof.Machine
end

