-- ==== Sys2Proof/Machine/Arithmetic.lean ====
section
/-! DEFINITION. The arithmetic commands MUL, SQR, MULA and INV (`44_arithmetic_commands.md`). -/

namespace Sys2Proof.Machine

/-- `MUL` at level `k` (rule R171). -/
def mulCommand (k : Nat) (s : State) : Host.Outcome State Fault Refusal :=
  complete (Tower.mul k (s.operandA k) (s.operandB k)) s

/-- `SQR` at level `k` (rule R172). -/
def sqrCommand (k : Nat) (s : State) : Host.Outcome State Fault Refusal := complete (Tower.sqr k (s.operandA k)) s

/-- `MULA` at level `k` (rule R173). -/
def mulaCommand (k : Nat) (s : State) : Host.Outcome State Fault Refusal := complete (Tower.alpha k (s.operandA k)) s

/-- `INV` at level `k`; inverting zero is no error (rules R174 and R203). -/
def invCommand (k : Nat) (s : State) : Host.Outcome State Fault Refusal := complete (Tower.inv k (s.operandA k)) s

/-- `MUL.1` (rule R171). -/
def execMul1 (s : State) : Host.Outcome State Fault Refusal :=
  mulCommand 0 s

/-- `MUL.2` (rule R171). -/
def execMul2 (s : State) : Host.Outcome State Fault Refusal :=
  mulCommand 1 s

/-- `MUL.4` (rule R171). -/
def execMul4 (s : State) : Host.Outcome State Fault Refusal :=
  mulCommand 2 s

/-- `MUL.8` (rule R171). -/
def execMul8 (s : State) : Host.Outcome State Fault Refusal :=
  mulCommand 3 s

/-- `MUL.16` (rule R171). -/
def execMul16 (s : State) : Host.Outcome State Fault Refusal :=
  mulCommand 4 s

/-- `MUL.32` (rule R171). -/
def execMul32 (s : State) : Host.Outcome State Fault Refusal :=
  mulCommand 5 s

/-- `MUL.64` (rule R171). -/
def execMul64 (s : State) : Host.Outcome State Fault Refusal :=
  mulCommand 6 s

/-- `MUL.128` (rule R171). -/
def execMul128 (s : State) : Host.Outcome State Fault Refusal :=
  mulCommand 7 s

/-- `SQR.1` (rule R172). -/
def execSqr1 (s : State) : Host.Outcome State Fault Refusal :=
  sqrCommand 0 s

/-- `SQR.2` (rule R172). -/
def execSqr2 (s : State) : Host.Outcome State Fault Refusal :=
  sqrCommand 1 s

/-- `SQR.4` (rule R172). -/
def execSqr4 (s : State) : Host.Outcome State Fault Refusal :=
  sqrCommand 2 s

/-- `SQR.8` (rule R172). -/
def execSqr8 (s : State) : Host.Outcome State Fault Refusal :=
  sqrCommand 3 s

/-- `SQR.16` (rule R172). -/
def execSqr16 (s : State) : Host.Outcome State Fault Refusal :=
  sqrCommand 4 s

/-- `SQR.32` (rule R172). -/
def execSqr32 (s : State) : Host.Outcome State Fault Refusal :=
  sqrCommand 5 s

/-- `SQR.64` (rule R172). -/
def execSqr64 (s : State) : Host.Outcome State Fault Refusal :=
  sqrCommand 6 s

/-- `SQR.128` (rule R172). -/
def execSqr128 (s : State) : Host.Outcome State Fault Refusal :=
  sqrCommand 7 s

/-- `MULA.1` (rule R173). -/
def execMula1 (s : State) : Host.Outcome State Fault Refusal :=
  mulaCommand 0 s

/-- `MULA.2` (rule R173). -/
def execMula2 (s : State) : Host.Outcome State Fault Refusal :=
  mulaCommand 1 s

/-- `MULA.4` (rule R173). -/
def execMula4 (s : State) : Host.Outcome State Fault Refusal :=
  mulaCommand 2 s

/-- `MULA.8` (rule R173). -/
def execMula8 (s : State) : Host.Outcome State Fault Refusal :=
  mulaCommand 3 s

/-- `MULA.16` (rule R173). -/
def execMula16 (s : State) : Host.Outcome State Fault Refusal :=
  mulaCommand 4 s

/-- `MULA.32` (rule R173). -/
def execMula32 (s : State) : Host.Outcome State Fault Refusal :=
  mulaCommand 5 s

/-- `MULA.64` (rule R173). -/
def execMula64 (s : State) : Host.Outcome State Fault Refusal :=
  mulaCommand 6 s

/-- `MULA.128` (rule R173). -/
def execMula128 (s : State) : Host.Outcome State Fault Refusal :=
  mulaCommand 7 s

/-- `INV.1` (rule R174). -/
def execInv1 (s : State) : Host.Outcome State Fault Refusal :=
  invCommand 0 s

/-- `INV.2` (rule R174). -/
def execInv2 (s : State) : Host.Outcome State Fault Refusal :=
  invCommand 1 s

/-- `INV.4` (rule R174). -/
def execInv4 (s : State) : Host.Outcome State Fault Refusal :=
  invCommand 2 s

/-- `INV.8` (rule R174). -/
def execInv8 (s : State) : Host.Outcome State Fault Refusal :=
  invCommand 3 s

/-- `INV.16` (rule R174). -/
def execInv16 (s : State) : Host.Outcome State Fault Refusal :=
  invCommand 4 s

/-- `INV.32` (rule R174). -/
def execInv32 (s : State) : Host.Outcome State Fault Refusal :=
  invCommand 5 s

/-- `INV.64` (rule R174). -/
def execInv64 (s : State) : Host.Outcome State Fault Refusal :=
  invCommand 6 s

/-- `INV.128` (rule R174). -/
def execInv128 (s : State) : Host.Outcome State Fault Refusal :=
  invCommand 7 s

end Sys2Proof.Machine
end

