-- ==== Sys2Proof/Machine/Datapath.lean ====
section
/-! DEFINITION. The element datapath: the commands CONS, ADD, HI, LO and JOIN (`40_element_datapath.md`). -/

namespace Sys2Proof.Machine

/-- `CONS` at level `k`: the masked operand itself (rule R96). -/
def consCommand (k : Nat) (s : State) : Host.Outcome State Fault Refusal := complete (s.operandA k) s

/-- `ADD` at level `k` (rule R100). -/
def addCommand (k : Nat) (s : State) : Host.Outcome State Fault Refusal :=
  complete (Tower.add k (s.operandA k) (s.operandB k)) s

/-- `HI` at level `j + 1`; the result is a level-`j` element (rule R97). -/
def hiCommand (j : Nat) (s : State) : Host.Outcome State Fault Refusal :=
  complete (k := j) (Tower.hi (s.operandA (j + 1))) s

/-- `LO` at level `j + 1`; the result is a level-`j` element (rule R98). -/
def loCommand (j : Nat) (s : State) : Host.Outcome State Fault Refusal :=
  complete (k := j) (Tower.lo (s.operandA (j + 1))) s

/-- `JOIN` at level `j + 1`: A is the high half, B the low half, each masked to level `j` (rule R99, decision
D16). -/
def joinCommand (j : Nat) (s : State) : Host.Outcome State Fault Refusal :=
  complete (k := j + 1) (Tower.join (s.operandA j) (s.operandB j)) s

/-- `CONS.1` (rule R96). -/
def execCons1 (s : State) : Host.Outcome State Fault Refusal :=
  consCommand 0 s

/-- `CONS.2` (rule R96). -/
def execCons2 (s : State) : Host.Outcome State Fault Refusal :=
  consCommand 1 s

/-- `CONS.4` (rule R96). -/
def execCons4 (s : State) : Host.Outcome State Fault Refusal :=
  consCommand 2 s

/-- `CONS.8` (rule R96). -/
def execCons8 (s : State) : Host.Outcome State Fault Refusal :=
  consCommand 3 s

/-- `CONS.16` (rule R96). -/
def execCons16 (s : State) : Host.Outcome State Fault Refusal :=
  consCommand 4 s

/-- `CONS.32` (rule R96). -/
def execCons32 (s : State) : Host.Outcome State Fault Refusal :=
  consCommand 5 s

/-- `CONS.64` (rule R96). -/
def execCons64 (s : State) : Host.Outcome State Fault Refusal :=
  consCommand 6 s

/-- `CONS.128` (rule R96). -/
def execCons128 (s : State) : Host.Outcome State Fault Refusal :=
  consCommand 7 s

/-- `ADD.1` (rule R100). -/
def execAdd1 (s : State) : Host.Outcome State Fault Refusal :=
  addCommand 0 s

/-- `ADD.2` (rule R100). -/
def execAdd2 (s : State) : Host.Outcome State Fault Refusal :=
  addCommand 1 s

/-- `ADD.4` (rule R100). -/
def execAdd4 (s : State) : Host.Outcome State Fault Refusal :=
  addCommand 2 s

/-- `ADD.8` (rule R100). -/
def execAdd8 (s : State) : Host.Outcome State Fault Refusal :=
  addCommand 3 s

/-- `ADD.16` (rule R100). -/
def execAdd16 (s : State) : Host.Outcome State Fault Refusal :=
  addCommand 4 s

/-- `ADD.32` (rule R100). -/
def execAdd32 (s : State) : Host.Outcome State Fault Refusal :=
  addCommand 5 s

/-- `ADD.64` (rule R100). -/
def execAdd64 (s : State) : Host.Outcome State Fault Refusal :=
  addCommand 6 s

/-- `ADD.128` (rule R100). -/
def execAdd128 (s : State) : Host.Outcome State Fault Refusal :=
  addCommand 7 s

/-- `HI.2` (rule R97). -/
def execHi2 (s : State) : Host.Outcome State Fault Refusal :=
  hiCommand 0 s

/-- `HI.4` (rule R97). -/
def execHi4 (s : State) : Host.Outcome State Fault Refusal :=
  hiCommand 1 s

/-- `HI.8` (rule R97). -/
def execHi8 (s : State) : Host.Outcome State Fault Refusal :=
  hiCommand 2 s

/-- `HI.16` (rule R97). -/
def execHi16 (s : State) : Host.Outcome State Fault Refusal :=
  hiCommand 3 s

/-- `HI.32` (rule R97). -/
def execHi32 (s : State) : Host.Outcome State Fault Refusal :=
  hiCommand 4 s

/-- `HI.64` (rule R97). -/
def execHi64 (s : State) : Host.Outcome State Fault Refusal :=
  hiCommand 5 s

/-- `HI.128` (rule R97). -/
def execHi128 (s : State) : Host.Outcome State Fault Refusal :=
  hiCommand 6 s

/-- `LO.2` (rule R98). -/
def execLo2 (s : State) : Host.Outcome State Fault Refusal :=
  loCommand 0 s

/-- `LO.4` (rule R98). -/
def execLo4 (s : State) : Host.Outcome State Fault Refusal :=
  loCommand 1 s

/-- `LO.8` (rule R98). -/
def execLo8 (s : State) : Host.Outcome State Fault Refusal :=
  loCommand 2 s

/-- `LO.16` (rule R98). -/
def execLo16 (s : State) : Host.Outcome State Fault Refusal :=
  loCommand 3 s

/-- `LO.32` (rule R98). -/
def execLo32 (s : State) : Host.Outcome State Fault Refusal :=
  loCommand 4 s

/-- `LO.64` (rule R98). -/
def execLo64 (s : State) : Host.Outcome State Fault Refusal :=
  loCommand 5 s

/-- `LO.128` (rule R98). -/
def execLo128 (s : State) : Host.Outcome State Fault Refusal :=
  loCommand 6 s

/-- `JOIN.2` (rule R99). -/
def execJoin2 (s : State) : Host.Outcome State Fault Refusal :=
  joinCommand 0 s

/-- `JOIN.4` (rule R99). -/
def execJoin4 (s : State) : Host.Outcome State Fault Refusal :=
  joinCommand 1 s

/-- `JOIN.8` (rule R99). -/
def execJoin8 (s : State) : Host.Outcome State Fault Refusal :=
  joinCommand 2 s

/-- `JOIN.16` (rule R99). -/
def execJoin16 (s : State) : Host.Outcome State Fault Refusal :=
  joinCommand 3 s

/-- `JOIN.32` (rule R99). -/
def execJoin32 (s : State) : Host.Outcome State Fault Refusal :=
  joinCommand 4 s

/-- `JOIN.64` (rule R99). -/
def execJoin64 (s : State) : Host.Outcome State Fault Refusal :=
  joinCommand 5 s

/-- `JOIN.128` (rule R99). -/
def execJoin128 (s : State) : Host.Outcome State Fault Refusal :=
  joinCommand 6 s

end Sys2Proof.Machine
end

