-- ==== Sys2Proof/Machine/Primitive.lean ====
section
/-! DEFINITION. Primitive multiplication, the command MULP (`45_mul_primitive.md`). -/

namespace Sys2Proof.Machine

/-- `MULP` at level `k` (rule R195): `iota` above the level is refused with `ExtensionDegreeMismatch` whatever
the operand is (rule R191). -/
def mulpCommand (k iota : Nat) (s : State) : Host.Outcome State Fault Refusal :=
  if k < iota then raise .extensionDegreeMismatch s
  else complete (Tower.mulp k (s.operandA k) iota) s

/-- `MULP.1` (rule R195). -/
def execMulp1 (iota : Nat) (s : State) : Host.Outcome State Fault Refusal :=
  mulpCommand 0 iota s

/-- `MULP.2` (rule R195). -/
def execMulp2 (iota : Nat) (s : State) : Host.Outcome State Fault Refusal :=
  mulpCommand 1 iota s

/-- `MULP.4` (rule R195). -/
def execMulp4 (iota : Nat) (s : State) : Host.Outcome State Fault Refusal :=
  mulpCommand 2 iota s

/-- `MULP.8` (rule R195). -/
def execMulp8 (iota : Nat) (s : State) : Host.Outcome State Fault Refusal :=
  mulpCommand 3 iota s

/-- `MULP.16` (rule R195). -/
def execMulp16 (iota : Nat) (s : State) : Host.Outcome State Fault Refusal :=
  mulpCommand 4 iota s

/-- `MULP.32` (rule R195). -/
def execMulp32 (iota : Nat) (s : State) : Host.Outcome State Fault Refusal :=
  mulpCommand 5 iota s

/-- `MULP.64` (rule R195). -/
def execMulp64 (iota : Nat) (s : State) : Host.Outcome State Fault Refusal :=
  mulpCommand 6 iota s

/-- `MULP.128` (rule R195). -/
def execMulp128 (iota : Nat) (s : State) : Host.Outcome State Fault Refusal :=
  mulpCommand 7 iota s

end Sys2Proof.Machine
end

