-- ==== Sys2Proof/Machine/Dispatch.lean ====
section
/-! DEFINITION. The meaning of every command: one arm per constructor, each one call (rule R65). -/

namespace Sys2Proof.Machine

def exec (i : Instr) (s : State) : Host.Outcome State Fault Refusal :=
  match i with
  | .cons1 => Sys2Proof.Machine.execCons1 s
  | .cons2 => Sys2Proof.Machine.execCons2 s
  | .cons4 => Sys2Proof.Machine.execCons4 s
  | .cons8 => Sys2Proof.Machine.execCons8 s
  | .cons16 => Sys2Proof.Machine.execCons16 s
  | .cons32 => Sys2Proof.Machine.execCons32 s
  | .cons64 => Sys2Proof.Machine.execCons64 s
  | .cons128 => Sys2Proof.Machine.execCons128 s
  | .add1 => Sys2Proof.Machine.execAdd1 s
  | .add2 => Sys2Proof.Machine.execAdd2 s
  | .add4 => Sys2Proof.Machine.execAdd4 s
  | .add8 => Sys2Proof.Machine.execAdd8 s
  | .add16 => Sys2Proof.Machine.execAdd16 s
  | .add32 => Sys2Proof.Machine.execAdd32 s
  | .add64 => Sys2Proof.Machine.execAdd64 s
  | .add128 => Sys2Proof.Machine.execAdd128 s
  | .mul1 => Sys2Proof.Machine.execMul1 s
  | .mul2 => Sys2Proof.Machine.execMul2 s
  | .mul4 => Sys2Proof.Machine.execMul4 s
  | .mul8 => Sys2Proof.Machine.execMul8 s
  | .mul16 => Sys2Proof.Machine.execMul16 s
  | .mul32 => Sys2Proof.Machine.execMul32 s
  | .mul64 => Sys2Proof.Machine.execMul64 s
  | .mul128 => Sys2Proof.Machine.execMul128 s
  | .sqr1 => Sys2Proof.Machine.execSqr1 s
  | .sqr2 => Sys2Proof.Machine.execSqr2 s
  | .sqr4 => Sys2Proof.Machine.execSqr4 s
  | .sqr8 => Sys2Proof.Machine.execSqr8 s
  | .sqr16 => Sys2Proof.Machine.execSqr16 s
  | .sqr32 => Sys2Proof.Machine.execSqr32 s
  | .sqr64 => Sys2Proof.Machine.execSqr64 s
  | .sqr128 => Sys2Proof.Machine.execSqr128 s
  | .mula1 => Sys2Proof.Machine.execMula1 s
  | .mula2 => Sys2Proof.Machine.execMula2 s
  | .mula4 => Sys2Proof.Machine.execMula4 s
  | .mula8 => Sys2Proof.Machine.execMula8 s
  | .mula16 => Sys2Proof.Machine.execMula16 s
  | .mula32 => Sys2Proof.Machine.execMula32 s
  | .mula64 => Sys2Proof.Machine.execMula64 s
  | .mula128 => Sys2Proof.Machine.execMula128 s
  | .inv1 => Sys2Proof.Machine.execInv1 s
  | .inv2 => Sys2Proof.Machine.execInv2 s
  | .inv4 => Sys2Proof.Machine.execInv4 s
  | .inv8 => Sys2Proof.Machine.execInv8 s
  | .inv16 => Sys2Proof.Machine.execInv16 s
  | .inv32 => Sys2Proof.Machine.execInv32 s
  | .inv64 => Sys2Proof.Machine.execInv64 s
  | .inv128 => Sys2Proof.Machine.execInv128 s
  | .mulp1 iota => Sys2Proof.Machine.execMulp1 iota s
  | .mulp2 iota => Sys2Proof.Machine.execMulp2 iota s
  | .mulp4 iota => Sys2Proof.Machine.execMulp4 iota s
  | .mulp8 iota => Sys2Proof.Machine.execMulp8 iota s
  | .mulp16 iota => Sys2Proof.Machine.execMulp16 iota s
  | .mulp32 iota => Sys2Proof.Machine.execMulp32 iota s
  | .mulp64 iota => Sys2Proof.Machine.execMulp64 iota s
  | .mulp128 iota => Sys2Proof.Machine.execMulp128 iota s
  | .hi2 => Sys2Proof.Machine.execHi2 s
  | .hi4 => Sys2Proof.Machine.execHi4 s
  | .hi8 => Sys2Proof.Machine.execHi8 s
  | .hi16 => Sys2Proof.Machine.execHi16 s
  | .hi32 => Sys2Proof.Machine.execHi32 s
  | .hi64 => Sys2Proof.Machine.execHi64 s
  | .hi128 => Sys2Proof.Machine.execHi128 s
  | .lo2 => Sys2Proof.Machine.execLo2 s
  | .lo4 => Sys2Proof.Machine.execLo4 s
  | .lo8 => Sys2Proof.Machine.execLo8 s
  | .lo16 => Sys2Proof.Machine.execLo16 s
  | .lo32 => Sys2Proof.Machine.execLo32 s
  | .lo64 => Sys2Proof.Machine.execLo64 s
  | .lo128 => Sys2Proof.Machine.execLo128 s
  | .join2 => Sys2Proof.Machine.execJoin2 s
  | .join4 => Sys2Proof.Machine.execJoin4 s
  | .join8 => Sys2Proof.Machine.execJoin8 s
  | .join16 => Sys2Proof.Machine.execJoin16 s
  | .join32 => Sys2Proof.Machine.execJoin32 s
  | .join64 => Sys2Proof.Machine.execJoin64 s
  | .join128 => Sys2Proof.Machine.execJoin128 s

end Sys2Proof.Machine
end

