-- ==== Sys2Proof/Machine/Step.lean ====
section
/-! DEFINITION. One step of the machine: one sampling of the input ports, one response. -/

namespace Sys2Proof.Machine

/-- The unit takes the command on its input ports and gives the response (rules R32 and R71). A word that names no
command is answered with `IllegalCommand`, and the unit goes on (rule R66). -/
def step (s : State) : Host.Outcome State Fault Refusal :=
  match decode s.sample.cmd with
  | .ok i => exec i s
  | .error _ => raise .illegalCommand s

/-- The host drives the word `w` on `CMD`; nothing else changes. -/
def State.withFetchWord (s : State) (nbits w : Nat) : State :=
  s.present { s.sample with cmd := tableWord nbits w }

end Sys2Proof.Machine
end

