-- ==== Sys2Proof/Machine/Ports.lean ====
section
/-! DEFINITION. What surrounds one step: a host that presents commands one after another on one port, and any
number of ports side by side. Ports share nothing but the constant tables (rules R32, R47 and R215). -/

namespace Sys2Proof.Machine

/-- The host presents the commands in order, each after the response to the one before it (rules R23 and R48). -/
def serve : List Command → State → Host.Outcome State Fault Refusal
  | [], s => .next s
  | c :: cs, s =>
    match step (s.present c) with
    | .next t => serve cs t
    | .fault r => .fault r
    | .refused r => .refused r

/-- Port `n` of a row of ports takes the command `c`; the other ports do not move. There is no outcome where there
is no such port. -/
def servePort (n : Nat) (c : Command) (ports : List State) : Option (List State) :=
  match ports[n]? with
  | none => none
  | some s =>
    match step (s.present c) with
    | .next t => some (ports.set n t)
    | .fault _ => none
    | .refused _ => none

/-- `N_PORTS` ports right after reset (rule R5). -/
def resetPorts : List State := List.replicate Config.nPorts State.reset

end Sys2Proof.Machine
end

