-- ==== Sys2Proof/Machine/Unit.lean ====
section
/-! DEFINITION. The response that the spec owes to a command, written from rule R71 alone. `step` does not use it;
that the two agree is a statement for the provers. -/

namespace Sys2Proof.Machine

/-- The unit as one total function, `exec(CMD, A, B)` of rule R71, its checks in the order written there. It does
not go through the decoder or the dispatch. -/
def unitResponse (c : Command) : Response :=
  let op := c.cmd.toNat % 16
  let k := c.cmd.toNat / 16 % 8
  let iota := c.cmd.toNat / 128 % 16
  let rsv := c.cmd.toNat / 2048
  if rsv ≠ 0 then .error .illegalCommand
  else if op ≥ 0xA then .error .illegalCommand
  else if op ≠ 0x6 ∧ iota ≠ 0 then .error .illegalCommand
  else if (op = 0x7 ∨ op = 0x8 ∨ op = 0x9) ∧ k = 0 then .error .illegalCommand
  else
    let a : Elem k := c.a.setWidth (2 ^ k)
    let b : Elem k := c.b.setWidth (2 ^ k)
    let h := 2 ^ (k - 1)
    match op with
    | 0x0 => .ok (a.setWidth 128)
    | 0x1 => .ok ((Tower.add k a b).setWidth 128)
    | 0x2 => .ok ((Tower.mul k a b).setWidth 128)
    | 0x3 => .ok ((Tower.sqr k a).setWidth 128)
    | 0x4 => .ok ((Tower.alpha k a).setWidth 128)
    | 0x5 => .ok ((Tower.inv k a).setWidth 128)
    | 0x6 =>
      if iota > k then .error .extensionDegreeMismatch
      else .ok ((Tower.mulp k a iota).setWidth 128)
    | 0x7 => .ok ((a >>> h).setWidth 128)
    | 0x8 => .ok ((a.setWidth h).setWidth 128)
    | _ => .ok (((c.a.setWidth h).setWidth 128 <<< h) ||| (c.b.setWidth h).setWidth 128)

end Sys2Proof.Machine
end

