-- ==== Sys2Proof/Machine/Work.lean ====
section
/-! DEFINITION. How many lookups in the level-3 tables one operation makes (rule R160), counted by running the same
formulas with counters. No command reads a count, and time is not architectural (rule R237); the counts show that
the work of a command depends on OP and LVL alone (rule R238). -/

namespace Sys2Proof.Machine

/-- Numbers of lookups in `MUL_3`, `SQUARE_3`, `ALPHA_MAP_3` and `INVERSE_3`. -/
structure Lookups where
  mul3 : Nat := 0
  square3 : Nat := 0
  alpha3 : Nat := 0
  inverse3 : Nat := 0
  deriving DecidableEq, Repr

/-- The lookups of two parts together. -/
def Lookups.plus (x y : Lookups) : Lookups :=
  ⟨x.mul3 + y.mul3, x.square3 + y.square3, x.alpha3 + y.alpha3, x.inverse3 + y.inverse3⟩

/-- `alpha_k` with its lookups. -/
def Tower.alphaCounted : (k : Nat) → Elem k → Elem k × Lookups
  | 0, a => (alpha 0 a, {})
  | 1, a => (alpha 1 a, {})
  | 2, a => (alpha 2 a, {})
  | 3, a => (alpha 3 a, { alpha3 := 1 })
  | k + 4, a =>
    let x := alphaCounted (k + 3) (hi a)
    (join (lo a ^^^ x.1) (hi a), x.2)

/-- `sqr_k` with its lookups. -/
def Tower.sqrCounted : (k : Nat) → Elem k → Elem k × Lookups
  | 0, a => (sqr 0 a, {})
  | 1, a => (sqr 1 a, {})
  | 2, a => (sqr 2 a, {})
  | 3, a => (sqr 3 a, { square3 := 1 })
  | k + 4, a =>
    let s0 := sqrCounted (k + 3) (lo a)
    let s2 := sqrCounted (k + 3) (hi a)
    let x := alphaCounted (k + 3) s2.1
    (join x.1 (s0.1 ^^^ s2.1), (s0.2.plus s2.2).plus x.2)

/-- `mul_k` with its lookups. -/
def Tower.mulCounted : (k : Nat) → Elem k → Elem k → Elem k × Lookups
  | 0, a, b => (mul 0 a b, {})
  | 1, a, b => (mul 1 a b, {})
  | 2, a, b => (mul 2 a b, {})
  | 3, a, b => (mul 3 a b, { mul3 := 1 })
  | k + 4, a, b =>
    let z0 := mulCounted (k + 3) (lo a) (lo b)
    let z2 := mulCounted (k + 3) (hi a) (hi b)
    let m := mulCounted (k + 3) (lo a ^^^ hi a) (lo b ^^^ hi b)
    let x := alphaCounted (k + 3) z2.1
    (join (m.1 ^^^ (z0.1 ^^^ z2.1) ^^^ x.1) (z0.1 ^^^ z2.1), ((z0.2.plus z2.2).plus m.2).plus x.2)

/-- `inv_k` with its lookups, without the test for zero, which rule R154 says can be dropped and rule R238 says must
not shorten the command. -/
def Tower.invCounted : (k : Nat) → Elem k → Elem k × Lookups
  | 0, a => (inv 0 a, {})
  | 1, a => (inv 1 a, {})
  | 2, a => (inv 2 a, {})
  | 3, a => (inv 3 a, { inverse3 := 1 })
  | k + 4, a =>
    let x := alphaCounted (k + 3) (hi a)
    let a0z1 := lo a ^^^ x.1
    let m := mulCounted (k + 3) (lo a) a0z1
    let q := sqrCounted (k + 3) (hi a)
    let deltaInv := invCounted (k + 3) (m.1 ^^^ q.1)
    let inv0 := mulCounted (k + 3) deltaInv.1 a0z1
    let inv1 := mulCounted (k + 3) deltaInv.1 (hi a)
    (join inv1.1 inv0.1,
      ((((x.2.plus m.2).plus q.2).plus deltaInv.2).plus inv0.2).plus inv1.2)

end Sys2Proof.Machine
end

