-- ==== Sys2Proof/Safety.lean ====
section
/-! DEFINITION. The terms that claims about the unit use: what it is for a command to complete or to be answered
with an error, which words are illegal, and the invariants of the history. -/

namespace Sys2Proof.Machine

/-- The outcome `o` of a command in state `s` is a next state `t` in which the command is answered with
`STATUS` 0 and an `R` that `P` holds of, and in which nothing else has changed: the operands stand on the input
ports as before (rule R31) and the earlier events are the same (the history is the model's record, assumption
log 4). -/
def Completes (s : State) (o : Host.Outcome State Fault Refusal) (P : PortWord → Prop) : Prop :=
  ∃ t, o = .next t ∧ t.portStatus = 0 ∧ P t.portR ∧ t.cmd = s.cmd ∧ t.a = s.a ∧ t.b = s.b ∧
    t.history = ⟨⟨s.cmd, s.a, s.b⟩, .ok t.portR⟩ :: s.history

/-- The outcome `o` of a command in state `s` is a next state `t` in which the command is answered with the error
`e`, with `STATUS` the code `code` and `R` 0, and in which nothing else has changed (rule R205; the
history is the model's record, assumption log 4). -/
def Errs (s : State) (o : Host.Outcome State Fault Refusal) (e : ErrorKind) (code : Nat) : Prop :=
  ∃ t, o = .next t ∧ t.portStatus.toNat = code ∧ t.portR = 0 ∧ t.cmd = s.cmd ∧ t.a = s.a ∧ t.b = s.b ∧
    t.history = ⟨⟨s.cmd, s.a, s.b⟩, .error e⟩ :: s.history

/-- The word is no legal encoding: clauses (a) to (d) of rule R66, on the word as a number. -/
abbrev IllegalWord (w : CmdWord) : Prop :=
  w.toNat / 2048 ≠ 0 ∨ w.toNat % 16 ≥ 10 ∨ (w.toNat % 16 ≠ 6 ∧ w.toNat / 128 % 16 ≠ 0) ∨
    (w.toNat % 16 ∈ [7, 8, 9] ∧ w.toNat / 16 % 8 = 0)

/-- The word is a legal `MULP` whose `IOTA` is above its `LVL` (rules R191 and R201). -/
abbrev MismatchedWord (w : CmdWord) : Prop :=
  ¬ IllegalWord w ∧ w.toNat % 16 = 6 ∧ w.toNat / 128 % 16 > w.toNat / 16 % 8

/-- The width in bits of the result of a command word: half the level's width for `HI` and `LO`, the level's width
otherwise (rule R64). -/
def resultWidth (w : CmdWord) : Nat :=
  let k := w.toNat / 16 % 8
  if w.toNat % 16 = 7 ∨ w.toNat % 16 = 8 then 2 ^ (k - 1) else 2 ^ k

/-- Every event of the history is the unit's response to its own command (rules R20, R23 and R47). -/
def State.historyFaithful (s : State) : Prop :=
  ∀ e ∈ s.history, e.response = unitResponse e.command

/-- Every result in the history is 0 above its width (rule R64). -/
def State.resultsFit (s : State) : Prop :=
  ∀ e ∈ s.history, e.response.r.toNat < 2 ^ resultWidth e.command.cmd

end Sys2Proof.Machine
end

