-- ==== Sys2Proof/Certificates/Slice0/Obligations.lean ====
section
/-! DEFINITION. The statements for the provers. Each is listed in OBLIGATIONS.json under the same name. -/

open Sys2Proof Sys2Proof.Machine

/-- After reset no response is pending (R230); the invariants that every step keeps hold there. That the record of responses is a list in State is the model's choice, which R20 allows (assumption log 4). -/
def Obligations.ResetHistoryMeetsInvariants : Prop :=
  State.reset.history = [] ∧ State.reset.historyFaithful ∧ State.reset.resultsFit

/-- Invariant: each response is the unit's function (R71) of its own command (R23, R47), in every state that a step reaches from a state where it is so. The history is the model's record (assumption log 4). -/
def Obligations.StepKeepsHistoryFaithful : Prop :=
  ∀ s t : State, s.historyFaithful → step s = .next t → t.historyFaithful

/-- Invariant: every bit of R above the result's width is 0 (R64). The history is the model's record (assumption log 4). -/
def Obligations.StepKeepsResultsFit : Prop :=
  ∀ s t : State, s.resultsFit → step s = .next t → t.resultsFit

/-- The whole unit as one function (R71): decoding and the 77 meanings together give what R71 says, for every word and every operand. The clause on the history is the model's choice, of which R71 says nothing (assumption log 4). -/
def Obligations.StepGivesUnitResponse : Prop :=
  ∀ s : State, ∃ t, step s = .next t ∧ t.portR = (unitResponse ⟨s.cmd, s.a, s.b⟩).r ∧
    t.portStatus = (unitResponse ⟨s.cmd, s.a, s.b⟩).status ∧ t.cmd = s.cmd ∧ t.a = s.a ∧ t.b = s.b ∧
    t.history = ⟨⟨s.cmd, s.a, s.b⟩, unitResponse ⟨s.cmd, s.a, s.b⟩⟩ :: s.history

/-- A step is exec of the decoded command; a word that does not decode is answered with IllegalCommand (R66, R71). -/
def Obligations.StepRunsDecodedCommand : Prop :=
  (∀ (s : State) (i : Instr), decode s.cmd = .ok i → step s = exec i s) ∧
    (∀ (s : State) (e : DecodeError), decode s.cmd = .error e → Errs s (step s) .illegalCommand 2)

/-- No command reads anything a previous command wrote (R20). The history, to which each step adds its event, is the model's record (assumption log 4). -/
def Obligations.ResponseDependsOnCommandOnly : Prop :=
  ∀ s t : State, s.cmd = t.cmd → s.a = t.a → s.b = t.b → ∃ resp,
    step s = .next ⟨s.cmd, s.a, s.b, ⟨⟨s.cmd, s.a, s.b⟩, resp⟩ :: s.history⟩ ∧
    step t = .next ⟨t.cmd, t.a, t.b, ⟨⟨t.cmd, t.a, t.b⟩, resp⟩ :: t.history⟩

/-- R66: clauses (a) to (d) give IllegalCommand and no other effect; every other word of the 65536 is legal. -/
def Obligations.IllegalWordsAnsweredOthersDecode : Prop :=
  (∀ s : State, IllegalWord s.cmd → Errs s (step s) .illegalCommand 2) ∧
    (∀ w : CmdWord, ¬ IllegalWord w → ∃ i : Instr, i.wellFormed = true ∧ decode w = .ok i)

/-- The error kinds, their codes and their order (R200, R204, R206): the step never stops, and nothing else gives a STATUS other than 0. -/
def Obligations.StatusCodesExact : Prop :=
  ∀ s : State, ∃ t, step s = .next t ∧ (t.portStatus = 2 ↔ IllegalWord s.cmd) ∧
    (t.portStatus = 1 ↔ MismatchedWord s.cmd) ∧
    (t.portStatus = 0 ↔ ¬ IllegalWord s.cmd ∧ ¬ MismatchedWord s.cmd) ∧
    t.portStatus ≠ 3 ∧ (t.portStatus ≠ 0 → t.portR = 0)

/-- Responses come back in the order of their commands, and each is the function of its own command (R23, R47, R235). The host that presents them one a step is the model's (`serve`, assumption log 5). -/
def Obligations.ServeAnswersInOrder : Prop :=
  ∀ (cs : List Command) (s : State), ∃ t, serve cs s = .next t ∧
    t.history = (cs.map fun c => (⟨c, unitResponse c⟩ : Event)).reverse ++ s.history

/-- Any two commands, on one port or on two, in either order, produce the same two responses (R47, R215). That a row of ports is a list of states, moved one at a time, is the model's choice (assumption log 9). -/
def Obligations.PortsDoNotInterfere : Prop :=
  (∀ (ports : List State) (n : Nat) (c : Command) (s : State), ports[n]? = some s →
      ∃ qs t, servePort n c ports = some qs ∧ step (s.present c) = .next t ∧ qs[n]? = some t ∧
        ∀ m, m ≠ n → qs[m]? = ports[m]?) ∧
    (∀ (ports : List State) (n m : Nat) (c d : Command), n ≠ m →
      (servePort n c ports).bind (servePort m d) = (servePort m d ports).bind (servePort n c)) ∧
    (∀ (s : State) (c d : Command), ∃ t u rc rd, serve [c, d] s = .next t ∧ serve [d, c] s = .next u ∧
      t.history = ⟨d, rd⟩ :: ⟨c, rc⟩ :: s.history ∧ u.history = ⟨c, rc⟩ :: ⟨d, rd⟩ :: s.history)

/-- Operand and result assembly (R64): what lies above the width is ignored; one-operand commands ignore all of B; R is zero-extended. The history is the model's record (assumption log 4). -/
def Obligations.UnusedOperandBitsIgnored : Prop :=
  ∀ s t : State, s.cmd = t.cmd →
    let op := s.cmd.toNat % 16
    let k := s.cmd.toNat / 16 % 8
    let w := if op = 9 then 2 ^ (k - 1) else 2 ^ k
    s.a.toNat % 2 ^ w = t.a.toNat % 2 ^ w →
    (op ∈ [1, 2, 9] → s.b.toNat % 2 ^ w = t.b.toNat % 2 ^ w) →
    ∃ resp, step s = .next ⟨s.cmd, s.a, s.b, ⟨⟨s.cmd, s.a, s.b⟩, resp⟩ :: s.history⟩ ∧
      step t = .next ⟨t.cmd, t.a, t.b, ⟨⟨t.cmd, t.a, t.b⟩, resp⟩ :: t.history⟩ ∧
      resp.r.toNat < 2 ^ resultWidth s.cmd

/-- Each legal operation has exactly one command word (R68). -/
def Obligations.DecodeEncodeAgree : Prop :=
  (∀ i : Instr, i.wellFormed = true → decode (encode i) = .ok i ∧
      (encode i).toNat = (i.iota <<< 7) ||| (i.level <<< 4) ||| i.op.code ∧ (i.op ≠ .mulp → i.iota = 0)) ∧
    (∀ (w : CmdWord) (i : Instr), decode w = .ok i → i.wellFormed = true ∧ encode i = w) ∧
    (∀ (i : Instr) (s : State), i.wellFormed = true → i.level < i.iota →
      Errs s (exec i s) .extensionDegreeMismatch 1)

/-- The example words of R69. -/
def Obligations.SpecExampleWordsDecode : Prop :=
  decode 0x0042 = .ok .mul16 ∧ decode 0x0075 = .ok .inv128 ∧ decode 0x0156 = .ok (.mulp32 2) ∧
    decode 0x0037 = .ok .hi8 ∧ decode 0x0019 = .ok .join2 ∧ decode 0x0000 = .ok .cons1

/-- CONS (R96), all eight levels. -/
def Obligations.ConsAnswersMaskedOperand : Prop :=
  (∀ p ∈ ([(.cons1, 0), (.cons2, 1), (.cons4, 2), (.cons8, 3),
      (.cons16, 4), (.cons32, 5), (.cons64, 6), (.cons128, 7)] : List (Instr × Nat)),
      decode (BitVec.ofNat 16 (0 ||| p.2 <<< 4)) = .ok p.1 ∧
      ∀ s : State, Completes s (exec p.1 s) fun r => r.toNat = s.a.toNat % 2 ^ 2 ^ p.2)

/-- ADD (R100), all eight levels. -/
def Obligations.AddAnswersXor : Prop :=
  (∀ p ∈ ([(.add1, 0), (.add2, 1), (.add4, 2), (.add8, 3),
      (.add16, 4), (.add32, 5), (.add64, 6), (.add128, 7)] : List (Instr × Nat)),
      decode (BitVec.ofNat 16 (1 ||| p.2 <<< 4)) = .ok p.1 ∧
      ∀ s : State, Completes s (exec p.1 s) fun r => r.toNat = (s.a.toNat % 2 ^ 2 ^ p.2) ^^^ (s.b.toNat % 2 ^ 2 ^ p.2))

/-- MUL (R171), all eight levels; what mul_k is, the recursion and ring statements say. -/
def Obligations.MulAnswersFieldProduct : Prop :=
  (∀ p ∈ ([(.mul1, 0), (.mul2, 1), (.mul4, 2), (.mul8, 3),
      (.mul16, 4), (.mul32, 5), (.mul64, 6), (.mul128, 7)] : List (Instr × Nat)),
      decode (BitVec.ofNat 16 (2 ||| p.2 <<< 4)) = .ok p.1 ∧
      ∀ s : State, Completes s (exec p.1 s) fun r => r = (Tower.mul p.2 (s.a.setWidth (2 ^ p.2)) (s.b.setWidth (2 ^ p.2))).setWidth 128 ∧
        r.toNat < 2 ^ 2 ^ p.2)

/-- SQR (R172), all eight levels: the result is sqr_k of the operand and equals MUL of the operand by itself. -/
def Obligations.SqrAnswersFieldSquare : Prop :=
  (∀ p ∈ ([(.sqr1, 0), (.sqr2, 1), (.sqr4, 2), (.sqr8, 3),
      (.sqr16, 4), (.sqr32, 5), (.sqr64, 6), (.sqr128, 7)] : List (Instr × Nat)),
      decode (BitVec.ofNat 16 (3 ||| p.2 <<< 4)) = .ok p.1 ∧
      ∀ s : State, Completes s (exec p.1 s) fun r => r = (Tower.sqr p.2 (s.a.setWidth (2 ^ p.2))).setWidth 128 ∧
        r = (Tower.mul p.2 (s.a.setWidth (2 ^ p.2)) (s.a.setWidth (2 ^ p.2))).setWidth 128)

/-- MULA (R173), all eight levels: the result is alpha_k of the operand and equals the product with ALPHA_k. -/
def Obligations.MulaAnswersGeneratorProduct : Prop :=
  (∀ p ∈ ([(.mula1, 0), (.mula2, 1), (.mula4, 2), (.mula8, 3),
      (.mula16, 4), (.mula32, 5), (.mula64, 6), (.mula128, 7)] : List (Instr × Nat)),
      decode (BitVec.ofNat 16 (4 ||| p.2 <<< 4)) = .ok p.1 ∧
      ∀ s : State, Completes s (exec p.1 s) fun r => r = (Tower.alpha p.2 (s.a.setWidth (2 ^ p.2))).setWidth 128 ∧
        r = (Tower.mul p.2 (s.a.setWidth (2 ^ p.2)) (Tower.generator p.2)).setWidth 128)

/-- INV (R174), all eight levels; inverting zero is not an error (R203). -/
def Obligations.InvAnswersInverseOrZero : Prop :=
  (∀ p ∈ ([(.inv1, 0), (.inv2, 1), (.inv4, 2), (.inv8, 3),
      (.inv16, 4), (.inv32, 5), (.inv64, 6), (.inv128, 7)] : List (Instr × Nat)),
      decode (BitVec.ofNat 16 (5 ||| p.2 <<< 4)) = .ok p.1 ∧
      ∀ s : State, Completes s (exec p.1 s) fun r => r = (Tower.inv p.2 (s.a.setWidth (2 ^ p.2))).setWidth 128 ∧
        (s.a.toNat % 2 ^ 2 ^ p.2 = 0 → r = 0))

/-- MULP (R195) and the range of iota (R191), all eight levels. -/
def Obligations.MulpAnswersOrRefusesByIota : Prop :=
  (∀ p ∈ ([(.mulp1, 0), (.mulp2, 1), (.mulp4, 2), (.mulp8, 3),
      (.mulp16, 4), (.mulp32, 5), (.mulp64, 6), (.mulp128, 7)] : List ((Nat → Instr) × Nat)), ∀ iota : Nat,
      (iota < 16 → decode (BitVec.ofNat 16 (6 ||| p.2 <<< 4 ||| iota <<< 7)) = .ok (p.1 iota)) ∧
      (iota ≤ p.2 → ∀ s : State, Completes s (exec (p.1 iota) s) fun r =>
        r = (Tower.mulp p.2 (s.a.setWidth (2 ^ p.2)) iota).setWidth 128 ∧
        (iota = p.2 → r = (Tower.alpha p.2 (s.a.setWidth (2 ^ p.2))).setWidth 128) ∧
        (iota = 0 → r.toNat = s.a.toNat % 2 ^ 2 ^ p.2) ∧
        (s.a.toNat % 2 ^ 2 ^ p.2 = 0 → r = 0)) ∧
      (p.2 < iota → ∀ s : State, Errs s (exec (p.1 iota) s) .extensionDegreeMismatch 1)) ∧
    (∀ s : State, s.cmd.toNat / 2048 ≠ 0 → Errs s (step s) .illegalCommand 2)

/-- HI (R97), levels 1 to 7, and its refusal at level 0. -/
def Obligations.HiAnswersHighHalf : Prop :=
  (∀ p ∈ ([(.hi2, 1), (.hi4, 2), (.hi8, 3), (.hi16, 4),
      (.hi32, 5), (.hi64, 6), (.hi128, 7)] : List (Instr × Nat)),
      decode (BitVec.ofNat 16 (7 ||| p.2 <<< 4)) = .ok p.1 ∧
      ∀ s : State, Completes s (exec p.1 s) fun r => r.toNat = s.a.toNat % 2 ^ 2 ^ p.2 / 2 ^ 2 ^ (p.2 - 1)) ∧
    (∀ s : State, s.cmd = 0x0007 → Errs s (step s) .illegalCommand 2)

/-- LO (R98), levels 1 to 7, and its refusal at level 0. -/
def Obligations.LoAnswersLowHalf : Prop :=
  (∀ p ∈ ([(.lo2, 1), (.lo4, 2), (.lo8, 3), (.lo16, 4),
      (.lo32, 5), (.lo64, 6), (.lo128, 7)] : List (Instr × Nat)),
      decode (BitVec.ofNat 16 (8 ||| p.2 <<< 4)) = .ok p.1 ∧
      ∀ s : State, Completes s (exec p.1 s) fun r => r.toNat = s.a.toNat % 2 ^ 2 ^ (p.2 - 1)) ∧
    (∀ s : State, s.cmd = 0x0008 → Errs s (step s) .illegalCommand 2)

/-- JOIN (R99), levels 1 to 7, and its refusal at level 0. -/
def Obligations.JoinAnswersRecomposition : Prop :=
  (∀ p ∈ ([(.join2, 1), (.join4, 2), (.join8, 3), (.join16, 4),
      (.join32, 5), (.join64, 6), (.join128, 7)] : List (Instr × Nat)),
      decode (BitVec.ofNat 16 (9 ||| p.2 <<< 4)) = .ok p.1 ∧
      ∀ s : State, Completes s (exec p.1 s) fun r => r.toNat = s.a.toNat % 2 ^ 2 ^ (p.2 - 1) * 2 ^ 2 ^ (p.2 - 1) + s.b.toNat % 2 ^ 2 ^ (p.2 - 1)) ∧
    (∀ s : State, s.cmd = 0x0009 → Errs s (step s) .illegalCommand 2)

/-- Decomposition (R91) and recomposition (R92). -/
def Obligations.HalvesAreQuotientAndRemainder : Prop :=
  ∀ k : Nat, k < 7 →
    (∀ x : Elem (k + 1), (Tower.hi x).toNat = x.toNat / 2 ^ 2 ^ k ∧ (Tower.lo x).toNat = x.toNat % 2 ^ 2 ^ k) ∧
    (∀ h l : Elem k, (Tower.join h l).toNat = h.toNat * 2 ^ 2 ^ k + l.toNat ∧
      (Tower.join h l).toNat = (h.toNat <<< 2 ^ k) ||| l.toNat)

/-- The decomposition is lossless and inverse to recombination (R93). -/
def Obligations.DecomposeRecomposeRoundTrip : Prop :=
  ∀ k : Nat, k < 7 →
    (∀ x : Elem (k + 1), Tower.join (Tower.hi x) (Tower.lo x) = x) ∧
    (∀ h l : Elem k, Tower.hi (Tower.join h l) = h ∧ Tower.lo (Tower.join h l) = l ∧
      ∀ j, j ≤ k → ∀ i, i < 2 ^ (k - j) →
        Tower.chunk j (Tower.join h l) i = Tower.chunk j l i ∧
        Tower.chunk j (Tower.join h l) (i + 2 ^ (k - j)) = Tower.chunk j h i)

/-- Subfield embedding (R94). -/
def Obligations.EmbeddingCommutesWithOperations : Prop :=
  ∀ j k : Nat, j < k → k ≤ 7 → ∀ y z : Elem j,
    Tower.add k (Tower.embed k y) (Tower.embed k z) = Tower.embed k (Tower.add j y z) ∧
    Tower.mul k (Tower.embed k y) (Tower.embed k z) = Tower.embed k (Tower.mul j y z) ∧
    Tower.sqr k (Tower.embed k y) = Tower.embed k (Tower.sqr j y) ∧
    Tower.inv k (Tower.embed k y) = Tower.embed k (Tower.inv j y) ∧
    Tower.embed k (0 : Elem j) = 0 ∧ Tower.embed k (1 : Elem j) = 1 ∧
    Tower.alpha k (Tower.embed k y) = Tower.mul k (Tower.embed k y) (Tower.generator k) ∧
    Tower.alpha k (Tower.embed k (1 : Elem j)) ≠ Tower.embed k (Tower.alpha j 1)

/-- One recursion covers all levels (R158); at levels 1 to 3 this says that the tables transcribed from R126 to R130 are those that R123 defines. -/
def Obligations.RecursionHoldsAtEveryLevel : Prop :=
  (∀ a b : Elem 0, (Tower.mul 0 a b).toNat = a.toNat * b.toNat ∧ Tower.sqr 0 a = a ∧ Tower.inv 0 a = a ∧
      Tower.alpha 0 a = a) ∧
    ∀ k : Nat, k < 7 → ∀ a b : Elem (k + 1),
      (let z0 := Tower.mul k (Tower.lo a) (Tower.lo b)
       let z2 := Tower.mul k (Tower.hi a) (Tower.hi b)
       let z1 := Tower.mul k (Tower.lo a ^^^ Tower.hi a) (Tower.lo b ^^^ Tower.hi b) ^^^ (z0 ^^^ z2)
       Tower.mul (k + 1) a b = Tower.join (z1 ^^^ Tower.alpha k z2) (z0 ^^^ z2)) ∧
      Tower.sqr (k + 1) a = Tower.join (Tower.alpha k (Tower.sqr k (Tower.hi a)))
        (Tower.sqr k (Tower.lo a) ^^^ Tower.sqr k (Tower.hi a)) ∧
      Tower.alpha (k + 1) a = Tower.join (Tower.lo a ^^^ Tower.alpha k (Tower.hi a)) (Tower.hi a) ∧
      Tower.inv (k + 1) 0 = 0 ∧
      (a ≠ 0 →
        let a0z1 := Tower.lo a ^^^ Tower.alpha k (Tower.hi a)
        let deltaInv := Tower.inv k (Tower.mul k (Tower.lo a) a0z1 ^^^ Tower.sqr k (Tower.hi a))
        Tower.inv (k + 1) a = Tower.join (Tower.mul k deltaInv (Tower.hi a)) (Tower.mul k deltaInv a0z1))

/-- The contract of the tables (R121) and the inverse of zero (R122). -/
def Obligations.TablesMeetTheContract : Prop :=
  (∀ a b : BitVec 2, Tables.mul1 a b = Tables.mul1 b a ∧ Tables.square1 a = Tables.mul1 a a ∧
      Tables.alphaMap1 a = Tables.mul1 a 0x2 ∧ (a ≠ 0 → Tables.mul1 a (Tables.inverse1 a) = 1)) ∧
    (∀ a b : BitVec 4, Tables.mul2 a b = Tables.mul2 b a ∧ Tables.square2 a = Tables.mul2 a a ∧
      Tables.alphaMap2 a = Tables.mul2 a 0x4 ∧ (a ≠ 0 → Tables.mul2 a (Tables.inverse2 a) = 1)) ∧
    (∀ a b : BitVec 8, Tables.mul3 a b = Tables.mul3 b a ∧ Tables.square3 a = Tables.mul3 a a ∧
      Tables.alphaMap3 a = Tables.mul3 a 0x10 ∧ (a ≠ 0 → Tables.mul3 a (Tables.inverse3 a) = 1)) ∧
    Tables.inverse1 0 = 0 ∧ Tables.inverse2 0 = 0 ∧ Tables.inverse3 0 = 0

/-- A second organisation of the level-3 tables computes the same function (R131, R52). -/
def Obligations.ExpLogReproducesLevelThree : Prop :=
  Tables.exp 0 = 1 ∧ (∀ i, i < 254 → Tables.exp (i + 1) = Tables.mul3 (Tables.exp i) 0x13) ∧
    (∀ i, i < 255 → Tables.log (Tables.exp i) = i) ∧
    ∀ a b : BitVec 8,
      Tables.mul3 a b = (if a = 0 ∨ b = 0 then 0 else Tables.exp ((Tables.log a + Tables.log b) % 255)) ∧
      (a ≠ 0 → Tables.inverse3 a = Tables.exp ((255 - Tables.log a) % 255) ∧
        Tables.square3 a = Tables.exp (2 * Tables.log a % 255))

/-- The algebra behind the formulas (R156), with four multiplications instead of the three of R151. -/
def Obligations.ProductIsQuotientRingProduct : Prop :=
  ∀ k : Nat, k < 7 →
    (∀ a1 a0 : Elem k, Tower.join a1 a0 =
      Tower.mul (k + 1) (Tower.embed (k + 1) a1) (Tower.generator (k + 1)) ^^^ Tower.embed (k + 1) a0) ∧
    (∀ a1 a0 b1 b0 : Elem k, Tower.mul (k + 1) (Tower.join a1 a0) (Tower.join b1 b0) =
      Tower.join
        (Tower.mul k a1 b0 ^^^ Tower.mul k a0 b1 ^^^ Tower.mul k (Tower.generator k) (Tower.mul k a1 b1))
        (Tower.mul k a0 b0 ^^^ Tower.mul k a1 b1)) ∧
    Tower.mul (k + 1) (Tower.generator (k + 1)) (Tower.generator (k + 1)) =
      Tower.mul (k + 1) (Tower.generator (k + 1)) (Tower.embed (k + 1) (Tower.generator k)) ^^^ 1

/-- Laws (1) to (4) of R175 at every level, for the tables and the engine together. -/
def Obligations.EveryLevelIsACommutativeRing : Prop :=
  ∀ k : Nat, k ≤ 7 → ∀ a b c : Elem k,
    Tower.add k a 0 = a ∧ Tower.add k a a = 0 ∧ Tower.add k a b = Tower.add k b a ∧
    Tower.add k (Tower.add k a b) c = Tower.add k a (Tower.add k b c) ∧
    Tower.mul k a 1 = a ∧ Tower.mul k a 0 = 0 ∧ Tower.mul k a b = Tower.mul k b a ∧
    Tower.mul k (Tower.mul k a b) c = Tower.mul k a (Tower.mul k b c) ∧
    Tower.mul k a (Tower.add k b c) = Tower.add k (Tower.mul k a b) (Tower.mul k a c)

/-- Squaring: law (5) of R175 and the corner cases of R172. -/
def Obligations.SquareIsLinearBijectiveSelfProduct : Prop :=
  ∀ k : Nat, k ≤ 7 → ∀ a b : Elem k, Tower.sqr k a = Tower.mul k a a ∧
    Tower.sqr k (a ^^^ b) = Tower.sqr k a ^^^ Tower.sqr k b ∧ (Tower.sqr k a = Tower.sqr k b → a = b) ∧
    Tower.sqr k (0 : Elem k) = 0 ∧ Tower.sqr k (1 : Elem k) = 1

/-- Multiplication by the generator: law (7) of R175, the corner cases of R173, the values of R124. -/
def Obligations.AlphaIsLinearGeneratorProduct : Prop :=
  ∀ k : Nat, k ≤ 7 → (∀ a b : Elem k, Tower.alpha k a = Tower.mul k a (Tower.generator k) ∧
      Tower.alpha k (a ^^^ b) = Tower.alpha k a ^^^ Tower.alpha k b) ∧
    Tower.alpha k (0 : Elem k) = 0 ∧ Tower.alpha k (1 : Elem k) = Tower.generator k ∧
    (Tower.generator k).toNat = if k = 0 then 1 else 2 ^ 2 ^ (k - 1)

/-- Law (6) of R175 at every level, which the spec checked exhaustively up to level 4 only, and the corner cases of R174. -/
def Obligations.EveryNonzeroElementHasItsInverse : Prop :=
  ∀ k : Nat, k ≤ 7 → (∀ a : Elem k, (a ≠ 0 → Tower.mul k a (Tower.inv k a) = 1) ∧
      (Tower.inv k a = 0 ↔ a = 0) ∧ Tower.inv k (Tower.inv k a) = a) ∧
    Tower.inv k (0 : Elem k) = 0 ∧ Tower.inv k (1 : Elem k) = 1

/-- Primitive multiplication in its several forms (R192, R193, R194, R196). -/
def Obligations.MulpFormsAgree : Prop :=
  ∀ k : Nat, k ≤ 7 → ∀ x : Elem k,
    Tower.mulp k x k = Tower.alpha k x ∧ Tower.mulp k x 0 = x ∧
    (∀ iota, iota ≤ k → Tower.mulp k x iota = Tower.mulpByHalves k x iota ∧
      ∀ i, i < 2 ^ (k - iota) →
        Tower.chunk iota (Tower.mulp k x iota) i = Tower.alpha iota (Tower.chunk iota x i)) ∧
    (∀ iota, iota < k → ∀ y : Elem iota,
      Tower.mulp k (Tower.embed k y) iota = Tower.embed k (Tower.alpha iota y))

/-- Operation counts (R160), the zero test of inversion dropped (R154), and work that does not depend on operand values (R238). Counting lookups as the measure of work is the model's choice (assumption log 8). -/
def Obligations.LookupsDependOnLevelOnly : Prop :=
  ∀ k : Nat, 3 ≤ k → k ≤ 7 → ∀ a b : Elem k,
    Tower.mulCounted k a b = (Tower.mul k a b, { mul3 := 3 ^ (k - 3), alpha3 := (3 ^ (k - 3) - 1) / 2 }) ∧
    Tower.sqrCounted k a = (Tower.sqr k a, { square3 := 2 ^ (k - 3), alpha3 := 2 ^ (k - 3) - 1 }) ∧
    Tower.alphaCounted k a = (Tower.alpha k a, { alpha3 := 1 }) ∧
    Tower.invCounted k a = (Tower.inv k a,
      { inverse3 := 1, square3 := 2 ^ (k - 3) - 1, mul3 := (3 ^ (k - 2) - 3) / 2,
        alpha3 := ((3 ^ (k - 2) - 3) / 2 - 3 * (k - 3)) / 2 + (2 ^ (k - 3) - 1) })
end

