-- ==== Sys2Proof/Laws/State.lean ====
section
/-! SUPPORT. One lemma per field per update of the state. -/

namespace Sys2Proof.Machine

@[simp] theorem State.present_cmd (c : Command) (s : State) : (s.present c).cmd = c.cmd := rfl
@[simp] theorem State.present_a (c : Command) (s : State) : (s.present c).a = c.a := rfl
@[simp] theorem State.present_b (c : Command) (s : State) : (s.present c).b = c.b := rfl
@[simp] theorem State.present_history (c : Command) (s : State) :
    (s.present c).history = s.history := rfl
@[simp] theorem State.sample_present (c : Command) (s : State) : (s.present c).sample = c := rfl

@[simp] theorem State.respond_cmd (s : State) (resp : Response) : (s.respond resp).cmd = s.cmd := rfl
@[simp] theorem State.respond_a (s : State) (resp : Response) : (s.respond resp).a = s.a := rfl
@[simp] theorem State.respond_b (s : State) (resp : Response) : (s.respond resp).b = s.b := rfl
@[simp] theorem State.respond_sample (s : State) (resp : Response) :
    (s.respond resp).sample = s.sample := rfl
@[simp] theorem State.respond_history (s : State) (resp : Response) :
    (s.respond resp).history = ⟨s.sample, resp⟩ :: s.history := rfl
@[simp] theorem State.respond_lastResponse (s : State) (resp : Response) :
    (s.respond resp).lastResponse = some resp := rfl
@[simp] theorem State.respond_portR (s : State) (resp : Response) :
    (s.respond resp).portR = resp.r := rfl
@[simp] theorem State.respond_portStatus (s : State) (resp : Response) :
    (s.respond resp).portStatus = resp.status := rfl

@[simp] theorem State.withFetchWord_cmd (s : State) (nbits w : Nat) :
    (s.withFetchWord nbits w).cmd = tableWord nbits w := rfl
@[simp] theorem State.withFetchWord_a (s : State) (nbits w : Nat) :
    (s.withFetchWord nbits w).a = s.a := rfl
@[simp] theorem State.withFetchWord_b (s : State) (nbits w : Nat) :
    (s.withFetchWord nbits w).b = s.b := rfl
@[simp] theorem State.withFetchWord_history (s : State) (nbits w : Nat) :
    (s.withFetchWord nbits w).history = s.history := rfl

@[simp] theorem State.reset_history : State.reset.history = [] := rfl
@[simp] theorem Response.ok_r (r : PortWord) : (Response.ok r).r = r := rfl
@[simp] theorem Response.ok_status (r : PortWord) : (Response.ok r).status = 0 := rfl
@[simp] theorem Response.error_r (e : ErrorKind) : (Response.error e).r = 0 := rfl
@[simp] theorem Response.error_status (e : ErrorKind) : (Response.error e).status = e.code := rfl

end Sys2Proof.Machine
end

