-- ==== Sys2Proof/Laws/Ops.lean ====
section
/-! SUPPORT. What each shared operation can do, said once: completing, raising, masking an operand. -/

namespace Sys2Proof.Machine

/-- Completing answers the command with the zero-extended result, and does nothing else. -/
theorem complete_eq {k : Nat} (r : Elem k) (s : State) :
    complete r s = .next (s.respond (.ok (r.setWidth 128))) := rfl

/-- Raising answers the command with the error, and does nothing else. -/
theorem raise_eq (e : ErrorKind) (s : State) : raise e s = .next (s.respond (.error e)) := rfl

/-- If completing answers a next state, it is the one that carries the result. -/
theorem complete_inv {k : Nat} {r : Elem k} {s t : State} (h : complete r s = .next t) :
    t = s.respond (.ok (r.setWidth 128)) :=
  (Host.Outcome.next.inj h).symm

/-- If raising answers a next state, it is the one that carries the error. -/
theorem raise_inv {e : ErrorKind} {s t : State} (h : raise e s = .next t) :
    t = s.respond (.error e) :=
  (Host.Outcome.next.inj h).symm

/-- A completed command, in the terms of `Completes`. -/
theorem completes_of_complete {k : Nat} {r : Elem k} {s : State} {P : PortWord → Prop}
    (h : P (r.setWidth 128)) : Completes s (complete r s) P :=
  ⟨_, rfl, rfl, h, rfl, rfl, rfl, rfl⟩

/-- A raised error, in the terms of `Errs`. -/
theorem errs_of_raise (e : ErrorKind) (s : State) : Errs s (raise e s) e e.code.toNat :=
  ⟨_, rfl, rfl, rfl, rfl, rfl, rfl, rfl⟩

/-- An operand is its port's value modulo the width of its level (rule R64). -/
theorem operandA_toNat (s : State) (k : Nat) : (s.operandA k).toNat = s.a.toNat % 2 ^ 2 ^ k := by
  simp [State.operandA]

/-- An operand is its port's value modulo the width of its level (rule R64). -/
theorem operandB_toNat (s : State) (k : Nat) : (s.operandB k).toNat = s.b.toNat % 2 ^ 2 ^ k := by
  simp [State.operandB]

/-- Zero extension to the port keeps the value of an element of a level up to 7. -/
theorem setWidth_port_toNat {k : Nat} (hk : k ≤ 7) (r : Elem k) : (r.setWidth 128).toNat = r.toNat := by
  have h : 2 ^ k ≤ 128 := by
    calc 2 ^ k ≤ 2 ^ 7 := Nat.pow_le_pow_right (by decide) hk
      _ = 128 := by decide
  rw [BitVec.toNat_setWidth]
  exact Nat.mod_eq_of_lt (lt_of_lt_of_le r.isLt (Nat.pow_le_pow_right (by decide) h))

/-- A word that does not decode is answered with `IllegalCommand`. -/
theorem step_of_decode_error {s : State} {e : DecodeError} (h : decode s.cmd = .error e) :
    step s = .next (s.respond (.error .illegalCommand)) := by
  simp [step, State.sample, h, raise]

end Sys2Proof.Machine
end

