-- ==== Sys2Proof/Laws/Commands.lean ====
section
/-! SUPPORT. What each shared command body answers, said once, and the equations of the tower engine at the levels
where it recurses. Proofs cite these and do not unfold. -/

namespace Sys2Proof.Machine

theorem consCommand_eq (k : Nat) (s : State) :
    consCommand k s = .next (s.respond (.ok ((s.operandA k).setWidth 128))) := rfl

theorem addCommand_eq (k : Nat) (s : State) :
    addCommand k s = .next (s.respond (.ok ((s.operandA k ^^^ s.operandB k).setWidth 128))) := rfl

theorem hiCommand_eq (j : Nat) (s : State) :
    hiCommand j s = .next (s.respond (.ok ((Tower.hi (s.operandA (j + 1))).setWidth 128))) := rfl

theorem loCommand_eq (j : Nat) (s : State) :
    loCommand j s = .next (s.respond (.ok ((Tower.lo (s.operandA (j + 1))).setWidth 128))) := rfl

theorem joinCommand_eq (j : Nat) (s : State) : joinCommand j s =
    .next (s.respond (.ok ((Tower.join (s.operandA j) (s.operandB j)).setWidth 128))) := rfl

theorem mulCommand_eq (k : Nat) (s : State) : mulCommand k s =
    .next (s.respond (.ok ((Tower.mul k (s.operandA k) (s.operandB k)).setWidth 128))) := rfl

theorem sqrCommand_eq (k : Nat) (s : State) :
    sqrCommand k s = .next (s.respond (.ok ((Tower.sqr k (s.operandA k)).setWidth 128))) := rfl

theorem mulaCommand_eq (k : Nat) (s : State) :
    mulaCommand k s = .next (s.respond (.ok ((Tower.alpha k (s.operandA k)).setWidth 128))) := rfl

theorem invCommand_eq (k : Nat) (s : State) :
    invCommand k s = .next (s.respond (.ok ((Tower.inv k (s.operandA k)).setWidth 128))) := rfl

theorem mulpCommand_legal {k iota : Nat} (h : iota ≤ k) (s : State) : mulpCommand k iota s =
    .next (s.respond (.ok ((Tower.mulp k (s.operandA k) iota).setWidth 128))) := by
  rw [mulpCommand, if_neg (Nat.not_lt.mpr h), complete_eq]

theorem mulpCommand_mismatch {k iota : Nat} (h : k < iota) (s : State) :
    mulpCommand k iota s = .next (s.respond (.error .extensionDegreeMismatch)) := by
  rw [mulpCommand, if_pos h, raise_eq]

theorem Tower.alpha_engine (k : Nat) (a : Elem (k + 4)) :
    alpha (k + 4) a = join (lo a ^^^ alpha (k + 3) (hi a)) (hi a) := rfl

theorem Tower.sqr_engine (k : Nat) (a : Elem (k + 4)) : sqr (k + 4) a =
    join (alpha (k + 3) (sqr (k + 3) (hi a))) (sqr (k + 3) (lo a) ^^^ sqr (k + 3) (hi a)) := rfl

theorem Tower.mul_engine (k : Nat) (a b : Elem (k + 4)) : mul (k + 4) a b =
    join
      (mul (k + 3) (lo a ^^^ hi a) (lo b ^^^ hi b)
        ^^^ (mul (k + 3) (lo a) (lo b) ^^^ mul (k + 3) (hi a) (hi b))
        ^^^ alpha (k + 3) (mul (k + 3) (hi a) (hi b)))
      (mul (k + 3) (lo a) (lo b) ^^^ mul (k + 3) (hi a) (hi b)) := rfl

theorem Tower.inv_engine_zero (k : Nat) : inv (k + 4) 0 = 0 := if_pos rfl

theorem Tower.inv_engine (k : Nat) {a : Elem (k + 4)} (h : a ≠ 0) : inv (k + 4) a =
    join
      (mul (k + 3) (inv (k + 3) (mul (k + 3) (lo a) (lo a ^^^ alpha (k + 3) (hi a))
        ^^^ sqr (k + 3) (hi a))) (hi a))
      (mul (k + 3) (inv (k + 3) (mul (k + 3) (lo a) (lo a ^^^ alpha (k + 3) (hi a))
        ^^^ sqr (k + 3) (hi a))) (lo a ^^^ alpha (k + 3) (hi a))) := if_neg h

@[simp] theorem Lookups.plus_mul3 (x y : Lookups) : (x.plus y).mul3 = x.mul3 + y.mul3 := rfl
@[simp] theorem Lookups.plus_square3 (x y : Lookups) : (x.plus y).square3 = x.square3 + y.square3 := rfl
@[simp] theorem Lookups.plus_alpha3 (x y : Lookups) : (x.plus y).alpha3 = x.alpha3 + y.alpha3 := rfl
@[simp] theorem Lookups.plus_inverse3 (x y : Lookups) : (x.plus y).inverse3 = x.inverse3 + y.inverse3 := rfl

end Sys2Proof.Machine
end

