-- ==== Sys2Proof/Laws/PerInstr.lean ====
section
/-! SUPPORT. One lemma per command of the family `EncodedFields`. -/

namespace Sys2Proof.Laws

/-- The word of a well-formed command carries its operation, level and iota in their fields, and `RSV` is 0
(rules R61 and R68). -/
def EncodedFields.Statement (i : Instr) : Prop :=
  i.wellFormed = true →
    (opField (encode i)).toNat = i.op.code ∧ (lvlField (encode i)).toNat = i.level ∧
      (iotaField (encode i)).toNat = i.iota ∧ rsvField (encode i) = 0

/-- The four fields of `MULP` words, for every `iota` that has an encoding. -/
theorem mulp_word_fields (k : Nat) (hk : k < 8) (iota : Nat) (h : iota < 16) :
    (opField (BitVec.ofNat 16 ((iota <<< 7) ||| (k <<< 4) ||| 6))).toNat = 6 ∧
      (lvlField (BitVec.ofNat 16 ((iota <<< 7) ||| (k <<< 4) ||| 6))).toNat = k ∧
      (iotaField (BitVec.ofNat 16 ((iota <<< 7) ||| (k <<< 4) ||| 6))).toNat = iota ∧
      rsvField (BitVec.ofNat 16 ((iota <<< 7) ||| (k <<< 4) ||| 6)) = 0 := by
  revert k iota
  decide

theorem EncodedFields.cons1 : Statement .cons1 := fun _ => by decide

theorem EncodedFields.cons2 : Statement .cons2 := fun _ => by decide

theorem EncodedFields.cons4 : Statement .cons4 := fun _ => by decide

theorem EncodedFields.cons8 : Statement .cons8 := fun _ => by decide

theorem EncodedFields.cons16 : Statement .cons16 := fun _ => by decide

theorem EncodedFields.cons32 : Statement .cons32 := fun _ => by decide

theorem EncodedFields.cons64 : Statement .cons64 := fun _ => by decide

theorem EncodedFields.cons128 : Statement .cons128 := fun _ => by decide

theorem EncodedFields.add1 : Statement .add1 := fun _ => by decide

theorem EncodedFields.add2 : Statement .add2 := fun _ => by decide

theorem EncodedFields.add4 : Statement .add4 := fun _ => by decide

theorem EncodedFields.add8 : Statement .add8 := fun _ => by decide

theorem EncodedFields.add16 : Statement .add16 := fun _ => by decide

theorem EncodedFields.add32 : Statement .add32 := fun _ => by decide

theorem EncodedFields.add64 : Statement .add64 := fun _ => by decide

theorem EncodedFields.add128 : Statement .add128 := fun _ => by decide

theorem EncodedFields.mul1 : Statement .mul1 := fun _ => by decide

theorem EncodedFields.mul2 : Statement .mul2 := fun _ => by decide

theorem EncodedFields.mul4 : Statement .mul4 := fun _ => by decide

theorem EncodedFields.mul8 : Statement .mul8 := fun _ => by decide

theorem EncodedFields.mul16 : Statement .mul16 := fun _ => by decide

theorem EncodedFields.mul32 : Statement .mul32 := fun _ => by decide

theorem EncodedFields.mul64 : Statement .mul64 := fun _ => by decide

theorem EncodedFields.mul128 : Statement .mul128 := fun _ => by decide

theorem EncodedFields.sqr1 : Statement .sqr1 := fun _ => by decide

theorem EncodedFields.sqr2 : Statement .sqr2 := fun _ => by decide

theorem EncodedFields.sqr4 : Statement .sqr4 := fun _ => by decide

theorem EncodedFields.sqr8 : Statement .sqr8 := fun _ => by decide

theorem EncodedFields.sqr16 : Statement .sqr16 := fun _ => by decide

theorem EncodedFields.sqr32 : Statement .sqr32 := fun _ => by decide

theorem EncodedFields.sqr64 : Statement .sqr64 := fun _ => by decide

theorem EncodedFields.sqr128 : Statement .sqr128 := fun _ => by decide

theorem EncodedFields.mula1 : Statement .mula1 := fun _ => by decide

theorem EncodedFields.mula2 : Statement .mula2 := fun _ => by decide

theorem EncodedFields.mula4 : Statement .mula4 := fun _ => by decide

theorem EncodedFields.mula8 : Statement .mula8 := fun _ => by decide

theorem EncodedFields.mula16 : Statement .mula16 := fun _ => by decide

theorem EncodedFields.mula32 : Statement .mula32 := fun _ => by decide

theorem EncodedFields.mula64 : Statement .mula64 := fun _ => by decide

theorem EncodedFields.mula128 : Statement .mula128 := fun _ => by decide

theorem EncodedFields.inv1 : Statement .inv1 := fun _ => by decide

theorem EncodedFields.inv2 : Statement .inv2 := fun _ => by decide

theorem EncodedFields.inv4 : Statement .inv4 := fun _ => by decide

theorem EncodedFields.inv8 : Statement .inv8 := fun _ => by decide

theorem EncodedFields.inv16 : Statement .inv16 := fun _ => by decide

theorem EncodedFields.inv32 : Statement .inv32 := fun _ => by decide

theorem EncodedFields.inv64 : Statement .inv64 := fun _ => by decide

theorem EncodedFields.inv128 : Statement .inv128 := fun _ => by decide

theorem EncodedFields.mulp1 (iota : Nat) : Statement (.mulp1 iota) := fun h =>
  mulp_word_fields 0 (by decide) iota (of_decide_eq_true h)

theorem EncodedFields.mulp2 (iota : Nat) : Statement (.mulp2 iota) := fun h =>
  mulp_word_fields 1 (by decide) iota (of_decide_eq_true h)

theorem EncodedFields.mulp4 (iota : Nat) : Statement (.mulp4 iota) := fun h =>
  mulp_word_fields 2 (by decide) iota (of_decide_eq_true h)

theorem EncodedFields.mulp8 (iota : Nat) : Statement (.mulp8 iota) := fun h =>
  mulp_word_fields 3 (by decide) iota (of_decide_eq_true h)

theorem EncodedFields.mulp16 (iota : Nat) : Statement (.mulp16 iota) := fun h =>
  mulp_word_fields 4 (by decide) iota (of_decide_eq_true h)

theorem EncodedFields.mulp32 (iota : Nat) : Statement (.mulp32 iota) := fun h =>
  mulp_word_fields 5 (by decide) iota (of_decide_eq_true h)

theorem EncodedFields.mulp64 (iota : Nat) : Statement (.mulp64 iota) := fun h =>
  mulp_word_fields 6 (by decide) iota (of_decide_eq_true h)

theorem EncodedFields.mulp128 (iota : Nat) : Statement (.mulp128 iota) := fun h =>
  mulp_word_fields 7 (by decide) iota (of_decide_eq_true h)

theorem EncodedFields.hi2 : Statement .hi2 := fun _ => by decide

theorem EncodedFields.hi4 : Statement .hi4 := fun _ => by decide

theorem EncodedFields.hi8 : Statement .hi8 := fun _ => by decide

theorem EncodedFields.hi16 : Statement .hi16 := fun _ => by decide

theorem EncodedFields.hi32 : Statement .hi32 := fun _ => by decide

theorem EncodedFields.hi64 : Statement .hi64 := fun _ => by decide

theorem EncodedFields.hi128 : Statement .hi128 := fun _ => by decide

theorem EncodedFields.lo2 : Statement .lo2 := fun _ => by decide

theorem EncodedFields.lo4 : Statement .lo4 := fun _ => by decide

theorem EncodedFields.lo8 : Statement .lo8 := fun _ => by decide

theorem EncodedFields.lo16 : Statement .lo16 := fun _ => by decide

theorem EncodedFields.lo32 : Statement .lo32 := fun _ => by decide

theorem EncodedFields.lo64 : Statement .lo64 := fun _ => by decide

theorem EncodedFields.lo128 : Statement .lo128 := fun _ => by decide

theorem EncodedFields.join2 : Statement .join2 := fun _ => by decide

theorem EncodedFields.join4 : Statement .join4 := fun _ => by decide

theorem EncodedFields.join8 : Statement .join8 := fun _ => by decide

theorem EncodedFields.join16 : Statement .join16 := fun _ => by decide

theorem EncodedFields.join32 : Statement .join32 := fun _ => by decide

theorem EncodedFields.join64 : Statement .join64 := fun _ => by decide

theorem EncodedFields.join128 : Statement .join128 := fun _ => by decide

/-- Every command stands at a level of rule R5. -/
theorem level_le_kmax (i : Instr) : i.level ≤ Config.kmax := by
  cases i <;> simp [Instr.level, Config.kmax]

end Sys2Proof.Laws
end

