-- ==== Sys2Proof/Machine/Program.lean ====
section
/-! DEFINITION. The host's notation for sequences of commands: lines and their text (rule R69) and the
pseudo-instructions (rule R70). It stands outside the unit: names and bindings are the host's, not registers. -/

namespace Sys2Proof.Machine

/-- What a line puts on an operand port: a host-side name `v<n>` or an integer literal (rule R69). -/
inductive Source where
  | name (n : Nat)
  | literal (v : Nat)
  deriving DecidableEq, Repr

/-- One line. `dst` is the host-side name that receives `R`; an operand the command does not have is absent. DESIGN
CHOICE (assumption log 13): rule R69 lists the width 1 for every mnemonic, while rules R97 to R99 ask for k ≥ 1; a
line holds an `Instr`, so `HI.1`, `LO.1` and `JOIN.1` are no lines and no line sends the words 0x0007, 0x0008 and
0x0009. A host that drives one of these words itself is answered with `IllegalCommand` (rule R66). -/
structure Line where
  instr : Instr
  dst : Nat
  srcA : Source
  srcB : Option Source
  deriving DecidableEq, Repr

/-- The host's names and the values bound to them, newest first. -/
abbrev Bindings := List (Nat × PortWord)

/-- Whether the operand form of the command has a `srcB` (rule R69). -/
def operandFormHasB : Op → Bool
  | .add | .mul | .join => true
  | .cons | .sqr | .mula | .inv | .mulp | .hi | .lo => false

/-- The line has the operand form of its mnemonic and an `iota` that the field `IOTA` can hold (rules R63 and R69). -/
def Line.wellFormed (l : Line) : Bool :=
  l.instr.wellFormed && (l.srcB.isSome == operandFormHasB l.instr.op)

/-- The value of a source, if its name is bound. DESIGN CHOICE: a literal is taken modulo `2^128` (assumption
log 10). -/
def Source.value (env : Bindings) : Source → Option PortWord
  | .name n => env.lookup n
  | .literal v => some (BitVec.ofNat 128 v)

/-- The command a line presents: `srcA` on port A, `srcB` on port B, and 0 on port B where the form has no `srcB`.
DESIGN CHOICE (assumption log 12): rule R69 gives no meaning to a `MULP` line with `#iota` above 15, or to a line
whose operands are not those of its mnemonic; such a line presents no command, so its `iota` is never wrapped and
never spills into `RSV`. -/
def Line.command (env : Bindings) (l : Line) : Option Command :=
  if l.wellFormed then
    match l.srcA.value env, (l.srcB.getD (.literal 0)).value env with
    | some a, some b => some ⟨encode l.instr, a, b⟩
    | _, _ => none
  else none

/-- How a sequence of lines ended (rule R69). -/
inductive Ending where
  /-- Every line was issued and answered with `STATUS` 0. -/
  | finished
  /-- The line at this place, counted from 0, was answered with this `STATUS`, and the host stopped there. -/
  | stopped (line : Nat) (status : BitVec 2)
  /-- The line at this place names a value that no earlier line bound, so the host cannot issue it (DESIGN CHOICE,
  assumption log 10). -/
  | unbound (line : Nat)
  /-- The line at this place is no line of the notation: its `iota` has no encoding or its operands are not those of
  its mnemonic. The host issues nothing for it (DESIGN CHOICE, assumption log 12). -/
  | malformed (line : Nat)
  /-- The model has no meaning for the line at this place; no command of the unit is such. -/
  | refused (line : Nat)
  deriving DecidableEq, Repr

/-- The host issues the lines in order: it binds `dst` to `R` where `STATUS` is 0 and stops where it is not (rule
R69). The last component says how it ended; the unit's own state is the one after the last command issued. -/
def issueLines : List Line → Nat → Bindings → State → Bindings × State × Ending
  | [], _, env, s => (env, s, .finished)
  | l :: rest, n, env, s =>
    match l.command env with
    | none => (env, s, if l.wellFormed then .unbound n else .malformed n)
    | some c =>
      match step (s.present c) with
      | .next t =>
        if t.portStatus = 0 then issueLines rest (n + 1) ((l.dst, t.portR) :: env) t
        else (env, t, .stopped n t.portStatus)
      | .fault f => nomatch f
      | .refused _ => (env, s, .refused n)

/-- The pseudo-instructions of rule R70. `t` in `div` is the name of the temporary. -/
inductive Pseudo where
  | ext (d : Nat) (a : Source)
  | decompose (dh dl : Nat) (a : Source)
  | recompose (d : Nat) (hi lo : Source)
  | zero (d : Nat)
  | one (d : Nat)
  | alpha (d : Nat)
  | sub (d : Nat) (a b : Source)
  | neg (d : Nat) (a : Source)
  | div (d : Nat) (a b : Source) (t : Nat)
  deriving DecidableEq, Repr

/-- A line for the command `op` at level `k`, where there is such a command (`HI`, `LO` and `JOIN` have none at level
0: DESIGN CHOICE, assumption log 13). -/
def lineOf (op : Op) (k d : Nat) (a : Source) (b : Option Source) : Option Line :=
  (instrOf op k 0).map fun i => ⟨i, d, a, b⟩

/-- The expansion of a pseudo-instruction at level `k` (rule R70). It has none where the level has no such command
(any level above 7; and, as rule R70 leaves open, `DEC` and `REC` at level 0: DESIGN CHOICE, assumption log 13). -/
def Pseudo.expand (k : Nat) : Pseudo → Option (List Line)
  | .ext d a => [lineOf .cons k d a none].mapM id
  | .decompose dh dl a => [lineOf .hi k dh a none, lineOf .lo k dl a none].mapM id
  | .recompose d hi lo => [lineOf .join k d hi (some lo)].mapM id
  | .zero d => [lineOf .cons k d (.literal 0) none].mapM id
  | .one d => [lineOf .cons k d (.literal 1) none].mapM id
  | .alpha d => [lineOf .cons k d (.literal (Tower.generator k).toNat) none].mapM id
  | .sub d a b => [lineOf .add k d a (some b)].mapM id
  | .neg d a => [lineOf .cons k d a none].mapM id
  | .div d a b t => [lineOf .inv k t b none, lineOf .mul k d a (some (.name t))].mapM id

/-- The text of a source: a name `v<n>`, or the literal in decimal. -/
def Source.text : Source → String
  | .name n => "v" ++ toString n
  | .literal v => toString v

/-- The text of a line: `MNEMONIC.<w> dst, srcA [, srcB] [, #iota]` (rule R69). -/
def Line.text (l : Line) : String :=
  l.instr.mnemonic ++ " v" ++ toString l.dst ++ ", " ++ l.srcA.text
    ++ (match l.srcB with | some b => ", " ++ b.text | none => "")
    ++ (if l.instr.op = .mulp then ", #" ++ toString l.instr.iota else "")

end Sys2Proof.Machine
end

