-- ==== Sys2Proof/Laws/Program.lean ====
section
/-! SUPPORT. What a line of the host's notation presents, said once. -/

namespace Sys2Proof.Machine

/-- A line that presents a command is well formed, and its word is the one word of its instruction. -/
theorem Line.command_some {env : Bindings} {l : Line} {c : Command} (h : l.command env = some c) :
    l.wellFormed = true ∧ c.cmd = encode l.instr ∧ l.srcA.value env = some c.a := by
  unfold Line.command at h
  split at h
  · next hw =>
    split at h
    · next _ _ ha _ => cases h; exact ⟨hw, rfl, ha⟩
    · cases h
  · cases h

/-- A malformed line presents no command, whatever is bound. -/
theorem Line.command_malformed {l : Line} (h : l.wellFormed = false) (env : Bindings) :
    l.command env = none := by
  simp [Line.command, h]

end Sys2Proof.Machine
end

