-- ==== Sys2Proof/Tests/Slice0.lean ====
section
/-! SUPPORT. The model's own tests. Expected values are the spec's: the encodings of `opcode_table.json`, the vectors
of `95_test_vectors.md` and `96_test_vectors_engine.md`, and the rows of rule R132; where the spec prints no vector
(three levels of `CONS`, and `LO.2`) the value is worked out by hand from rules R96 and R98. The `witness_` theorems show states and
operands that meet the hypotheses of the obligation they are named after. -/

namespace Sys2Proof.Tests

open Sys2Proof Sys2Proof.Machine

/-- A state with these values on the input ports and no event. -/
def driven (cmd a b : Nat) : State :=
  ⟨BitVec.ofNat 16 cmd, BitVec.ofNat 128 a, BitVec.ofNat 128 b, []⟩

/-- `STATUS` and `R` after one step on these inputs. -/
def answer (cmd a b : Nat) : Option (Nat × Nat) :=
  match step (driven cmd a b) with
  | .next t => some (t.portStatus.toNat, t.portR.toNat)
  | .fault _ => none
  | .refused _ => none

/-- Each word decodes to the command beside it. -/
def decodesTo (l : List (Nat × Instr)) : Bool :=
  l.all fun p => decodeTableWord 16 p.1 == some p.2

/-- The word is refused for this reason. -/
def refusedAs (w : Nat) (e : DecodeError) : Bool :=
  match decode (BitVec.ofNat 16 w) with
  | .ok _ => false
  | .error e' => e == e'

/-! ### Well-formedness: the one check, on an ill-formed term of each command it applies to -/

theorem test_illFormed_mulp1 : (Instr.mulp1 16).wellFormed = false := by decide
theorem test_illFormed_mulp2 : (Instr.mulp2 16).wellFormed = false := by decide
theorem test_illFormed_mulp4 : (Instr.mulp4 16).wellFormed = false := by decide
theorem test_illFormed_mulp8 : (Instr.mulp8 16).wellFormed = false := by decide
theorem test_illFormed_mulp16 : (Instr.mulp16 16).wellFormed = false := by decide
theorem test_illFormed_mulp32 : (Instr.mulp32 16).wellFormed = false := by decide
theorem test_illFormed_mulp64 : (Instr.mulp64 16).wellFormed = false := by decide
theorem test_illFormed_mulp128 : (Instr.mulp128 16).wellFormed = false := by decide
theorem test_wellFormed_boundary : (Instr.mulp1 15).wellFormed = true := by decide

/-! ### Decoding: the words of the opcode table, bit by bit (RSV, IOTA, LVL, OP) -/

theorem test_decode_cons : decodesTo
    [(0b0000000000000000, .cons1),
     (0b0000000000010000, .cons2),
     (0b0000000000100000, .cons4),
     (0b0000000000110000, .cons8),
     (0b0000000001000000, .cons16),
     (0b0000000001010000, .cons32),
     (0b0000000001100000, .cons64),
     (0b0000000001110000, .cons128)] = true := by decide

theorem test_decode_add : decodesTo
    [(0b0000000000000001, .add1),
     (0b0000000000010001, .add2),
     (0b0000000000100001, .add4),
     (0b0000000000110001, .add8),
     (0b0000000001000001, .add16),
     (0b0000000001010001, .add32),
     (0b0000000001100001, .add64),
     (0b0000000001110001, .add128)] = true := by decide

theorem test_decode_mul : decodesTo
    [(0b0000000000000010, .mul1),
     (0b0000000000010010, .mul2),
     (0b0000000000100010, .mul4),
     (0b0000000000110010, .mul8),
     (0b0000000001000010, .mul16),
     (0b0000000001010010, .mul32),
     (0b0000000001100010, .mul64),
     (0b0000000001110010, .mul128)] = true := by decide

theorem test_decode_sqr : decodesTo
    [(0b0000000000000011, .sqr1),
     (0b0000000000010011, .sqr2),
     (0b0000000000100011, .sqr4),
     (0b0000000000110011, .sqr8),
     (0b0000000001000011, .sqr16),
     (0b0000000001010011, .sqr32),
     (0b0000000001100011, .sqr64),
     (0b0000000001110011, .sqr128)] = true := by decide

theorem test_decode_mula : decodesTo
    [(0b0000000000000100, .mula1),
     (0b0000000000010100, .mula2),
     (0b0000000000100100, .mula4),
     (0b0000000000110100, .mula8),
     (0b0000000001000100, .mula16),
     (0b0000000001010100, .mula32),
     (0b0000000001100100, .mula64),
     (0b0000000001110100, .mula128)] = true := by decide

theorem test_decode_inv : decodesTo
    [(0b0000000000000101, .inv1),
     (0b0000000000010101, .inv2),
     (0b0000000000100101, .inv4),
     (0b0000000000110101, .inv8),
     (0b0000000001000101, .inv16),
     (0b0000000001010101, .inv32),
     (0b0000000001100101, .inv64),
     (0b0000000001110101, .inv128)] = true := by decide

theorem test_decode_mulp : decodesTo
    [(0b0000000000000110, .mulp1 0),
     (0b0000000010010110, .mulp2 1),
     (0b0000000100100110, .mulp4 2),
     (0b0000001010110110, .mulp8 5),
     (0b0000001111000110, .mulp16 7),
     (0b0000010001010110, .mulp32 8),
     (0b0000010101100110, .mulp64 10),
     (0b0000011111110110, .mulp128 15)] = true := by decide

theorem test_decode_hi : decodesTo
    [(0b0000000000010111, .hi2),
     (0b0000000000100111, .hi4),
     (0b0000000000110111, .hi8),
     (0b0000000001000111, .hi16),
     (0b0000000001010111, .hi32),
     (0b0000000001100111, .hi64),
     (0b0000000001110111, .hi128)] = true := by decide

theorem test_decode_lo : decodesTo
    [(0b0000000000011000, .lo2),
     (0b0000000000101000, .lo4),
     (0b0000000000111000, .lo8),
     (0b0000000001001000, .lo16),
     (0b0000000001011000, .lo32),
     (0b0000000001101000, .lo64),
     (0b0000000001111000, .lo128)] = true := by decide

theorem test_decode_join : decodesTo
    [(0b0000000000011001, .join2),
     (0b0000000000101001, .join4),
     (0b0000000000111001, .join8),
     (0b0000000001001001, .join16),
     (0b0000000001011001, .join32),
     (0b0000000001101001, .join64),
     (0b0000000001111001, .join128)] = true := by decide

/-! ### Words that name no command (rule R66, vectors of section 2.7) -/

theorem test_refused_rsv : refusedAs 0x0842 .reservedBits = true ∧ refusedAs 0x8042 .reservedBits = true := by
  decide
theorem test_refused_op : refusedAs 0x004A .reservedOp = true ∧ refusedAs 0x000F .reservedOp = true := by decide
theorem test_refused_iota :
    refusedAs 0x00C2 .iotaOutsideMulp = true ∧ refusedAs 0x0244 .iotaOutsideMulp = true := by decide
theorem test_refused_level0 : refusedAs 0x0007 .noHalvesAtLevelZero = true ∧
    refusedAs 0x0008 .noHalvesAtLevelZero = true ∧ refusedAs 0x0009 .noHalvesAtLevelZero = true := by decide
theorem test_illegal_answer : answer 0x0842 0x1234 0xABCD = some (2, 0) := by decide
theorem test_illegal_wins : answer 0x8FC6 0x1234 0xABCD = some (2, 0) := by decide
theorem test_mismatch_mulp16 : answer 0x02C6 0x1234 0 = some (1, 0) := by decide
theorem test_mismatch_mulp128 :
    answer 0x07F6 0x00112233445566778899AABBCCDDEEFF 0 = some (1, 0) := by decide
theorem test_mismatch_zero_operand : answer 0x02C6 0 0 = some (1, 0) := by decide
theorem test_inverse_of_zero_is_no_error : answer 0x0045 0x10000 0 = some (0, 0) := by decide
theorem test_upper_bits_ignored : answer 0x0042 0xFFFF1234 0xEEEEABCD = some (0, 0xCF0C) := by decide

/-! ### One step of every command -/

theorem test_exec_cons1 :
    answer 0x0000 0xFFFF 0x0 = some (0, 0x1) := by decide
theorem test_exec_cons2 :
    answer 0x0010 0xE 0x0 = some (0, 0x2) := by decide
theorem test_exec_cons4 :
    answer 0x0020 0x1C7 0x0 = some (0, 0x7) := by decide
theorem test_exec_cons8 :
    answer 0x0030 0x1234 0x0 = some (0, 0x34) := by decide
theorem test_exec_cons16 :
    answer 0x0040 0xFFFF1234 0x0 = some (0, 0x1234) := by decide
theorem test_exec_cons32 :
    answer 0x0050 0x1DEADBEEF 0x0 = some (0, 0xDEADBEEF) := by decide
theorem test_exec_cons64 :
    answer 0x0060 0xDEAD0123456789ABCDEF 0x0 = some (0, 0x123456789ABCDEF) := by decide
theorem test_exec_cons128 :
    answer 0x0070 0xFFFFFFFFFFFFFFFFFFFFFFFFFFFFFFFF 0x0 = some (0, 0xFFFFFFFFFFFFFFFFFFFFFFFFFFFFFFFF) := by decide
theorem test_exec_add1 :
    answer 0x0001 0x1 0x1 = some (0, 0x0) := by decide
theorem test_exec_add2 :
    answer 0x0011 0x3 0x1 = some (0, 0x2) := by decide
theorem test_exec_add4 :
    answer 0x0021 0xF 0xA = some (0, 0x5) := by decide
theorem test_exec_add8 :
    answer 0x0031 0x3D 0xF2 = some (0, 0xCF) := by decide
theorem test_exec_add16 :
    answer 0x0041 0x11234 0x2ABCD = some (0, 0xB9F9) := by decide
theorem test_exec_add32 :
    answer 0x0051 0xDEADBEEF 0x12345678 = some (0, 0xCC99E897) := by decide
theorem test_exec_add64 :
    answer 0x0061 0x123456789ABCDEF 0xFEDCBA9876543210 = some (0, 0xFFFFFFFFFFFFFFFF) := by decide
theorem test_exec_add128 :
    answer 0x0071 0x112233445566778899AABBCCDDEEFF 0xF1E2D3C4B5A69788796A5B4C3D2E1F0 = some (0, 0xF0F0F0F0F0F0F0F0F0F0F0F0F0F0F0F) := by decide
theorem test_exec_mul1 :
    answer 0x0002 0xF 0xB = some (0, 0x1) := by decide
theorem test_exec_mul2 :
    answer 0x0012 0x2 0x2 = some (0, 0x3) := by decide
theorem test_exec_mul4 :
    answer 0x0022 0x6 0xB = some (0, 0xF) := by decide
theorem test_exec_mul8 :
    answer 0x0032 0x53 0xCA = some (0, 0x6E) := by decide
theorem test_exec_mul16 :
    answer 0x0042 0xFFFF1234 0xEEEEABCD = some (0, 0xCF0C) := by decide
theorem test_exec_mul32 :
    answer 0x0052 0xDEADBEEF 0x12345678 = some (0, 0x94E989A6) := by decide
theorem test_exec_mul64 :
    answer 0x0062 0x123456789ABCDEF 0xFEDCBA9876543210 = some (0, 0x63498A8F21160000) := by decide
theorem test_exec_mul128 :
    answer 0x0072 0x112233445566778899AABBCCDDEEFF 0xF1E2D3C4B5A69788796A5B4C3D2E1F0 = some (0, 0x7A38360318EE75FF9C43433800000000) := by decide +kernel
theorem test_exec_sqr1 :
    answer 0x0003 0x1 0x0 = some (0, 0x1) := by decide
theorem test_exec_sqr2 :
    answer 0x0013 0x2 0x0 = some (0, 0x3) := by decide
theorem test_exec_sqr4 :
    answer 0x0023 0x4 0x0 = some (0, 0x9) := by decide
theorem test_exec_sqr8 :
    answer 0x0033 0x53 0x0 = some (0, 0xEA) := by decide
theorem test_exec_sqr16 :
    answer 0x0043 0xABCD 0x0 = some (0, 0xB960) := by decide
theorem test_exec_sqr32 :
    answer 0x0053 0xDEADBEEF 0x0 = some (0, 0x990BB6C0) := by decide
theorem test_exec_sqr64 :
    answer 0x0063 0xFEDCBA9876543210 0x0 = some (0, 0xEF2424476DD50000) := by decide
theorem test_exec_sqr128 :
    answer 0x0073 0xF1E2D3C4B5A69788796A5B4C3D2E1F0 0x0 = some (0, 0x6D15BF3CBF3C3CC0136D6DD500000000) := by decide
theorem test_exec_mula1 :
    answer 0x0004 0x1 0x0 = some (0, 0x1) := by decide
theorem test_exec_mula2 :
    answer 0x0014 0x2 0x0 = some (0, 0x3) := by decide
theorem test_exec_mula4 :
    answer 0x0024 0xF 0x0 = some (0, 0xB) := by decide
theorem test_exec_mula8 :
    answer 0x0034 0x27 0x0 = some (0, 0xF2) := by decide
theorem test_exec_mula16 :
    answer 0x0044 0xDEAD 0x0 = some (0, 0x70DE) := by decide
theorem test_exec_mula32 :
    answer 0x0054 0xDEADBEEF 0x0 = some (0, 0xCE31DEAD) := by decide
theorem test_exec_mula64 :
    answer 0x0064 0xFEDCBA9876543210 0x0 = some (0, 0x4F32CCCCFEDCBA98) := by decide
theorem test_exec_mula128 :
    answer 0x0074 0xF1E2D3C4B5A69788796A5B4C3D2E1F0 0x0 = some (0, 0xFFFC3D2CCCCCCCC0F1E2D3C4B5A6978) := by decide
theorem test_exec_inv1 :
    answer 0x0005 0x1 0x0 = some (0, 0x1) := by decide
theorem test_exec_inv2 :
    answer 0x0015 0x2 0x0 = some (0, 0x3) := by decide
theorem test_exec_inv4 :
    answer 0x0025 0x4 0x0 = some (0, 0x6) := by decide
theorem test_exec_inv8 :
    answer 0x0035 0x53 0x0 = some (0, 0x5E) := by decide
theorem test_exec_inv16 :
    answer 0x0045 0x1234 0xABCD = some (0, 0xCF67) := by decide
theorem test_exec_inv32 :
    answer 0x0055 0x9ABDC944 0x0 = some (0, 0xDEADBEEF) := by decide
theorem test_exec_inv64 :
    answer 0x0065 0x123456789ABCDEF 0x0 = some (0, 0xAF93F7A3EB173F3B) := by decide
theorem test_exec_inv128 :
    answer 0x0075 0x112233445566778899AABBCCDDEEFF 0x0 = some (0, 0xFCE6CEE00B11E61F24A2AF2EE62E15DA) := by decide +kernel
theorem test_exec_mulp1 :
    answer 0x0006 0x1 0x0 = some (0, 0x1) := by decide
theorem test_exec_mulp2 :
    answer 0x0096 0x3 0x0 = some (0, 0x1) := by decide
theorem test_exec_mulp4 :
    answer 0x00A6 0xB 0x0 = some (0, 0xD) := by decide
theorem test_exec_mulp8 :
    answer 0x0136 0x53 0x0 = some (0, 0xDC) := by decide
theorem test_exec_mulp16 :
    answer 0x0146 0x1234 0x0 = some (0, 0x48C9) := by decide
theorem test_exec_mulp32 :
    answer 0x00D6 0xDEADBEEF 0x0 = some (0, 0x67F6D775) := by decide
theorem test_exec_mulp64 :
    answer 0x00E6 0x123456789ABCDEF 0x0 = some (0, 0x2318AB9CEFD4675) := by decide
theorem test_exec_mulp128 :
    answer 0x00F6 0x112233445566778899AABBCCDDEEFF 0x0 = some (0, 0x22331188AABB99CCEEFFDD44667755) := by decide
theorem test_exec_hi2 :
    answer 0x0017 0x2 0x0 = some (0, 0x1) := by decide
theorem test_exec_hi4 :
    answer 0x0027 0xB 0x0 = some (0, 0x2) := by decide
theorem test_exec_hi8 :
    answer 0x0037 0x53 0x0 = some (0, 0x5) := by decide
theorem test_exec_hi16 :
    answer 0x0047 0xABCD 0x0 = some (0, 0xAB) := by decide
theorem test_exec_hi32 :
    answer 0x0057 0xDEADBEEF 0x0 = some (0, 0xDEAD) := by decide
theorem test_exec_hi64 :
    answer 0x0067 0x123456789ABCDEF 0x0 = some (0, 0x1234567) := by decide
theorem test_exec_hi128 :
    answer 0x0077 0x112233445566778899AABBCCDDEEFF 0x0 = some (0, 0x11223344556677) := by decide
theorem test_exec_lo2 :
    answer 0x0018 0x1 0x0 = some (0, 0x1) := by decide
theorem test_exec_lo4 :
    answer 0x0028 0xB 0x0 = some (0, 0x3) := by decide
theorem test_exec_lo8 :
    answer 0x0038 0x53 0x0 = some (0, 0x3) := by decide
theorem test_exec_lo16 :
    answer 0x0048 0xABCD 0x0 = some (0, 0xCD) := by decide
theorem test_exec_lo32 :
    answer 0x0058 0xDEADBEEF 0x0 = some (0, 0xBEEF) := by decide
theorem test_exec_lo64 :
    answer 0x0068 0x123456789ABCDEF 0x0 = some (0, 0x89ABCDEF) := by decide
theorem test_exec_lo128 :
    answer 0x0078 0x112233445566778899AABBCCDDEEFF 0x0 = some (0, 0x8899AABBCCDDEEFF) := by decide
theorem test_exec_join2 :
    answer 0x0019 0x1 0x0 = some (0, 0x2) := by decide
theorem test_exec_join4 :
    answer 0x0029 0x1 0x0 = some (0, 0x4) := by decide
theorem test_exec_join8 :
    answer 0x0039 0x5 0x3 = some (0, 0x53) := by decide
theorem test_exec_join16 :
    answer 0x0049 0xFF12 0xFF34 = some (0, 0x1234) := by decide
theorem test_exec_join32 :
    answer 0x0059 0xDEAD 0xBEEF = some (0, 0xDEADBEEF) := by decide
theorem test_exec_join64 :
    answer 0x0069 0x1234567 0x89ABCDEF = some (0, 0x123456789ABCDEF) := by decide
theorem test_exec_join128 :
    answer 0x0079 0x11223344556677 0x8899AABBCCDDEEFF = some (0, 0x112233445566778899AABBCCDDEEFF) := by decide

/-! ### The printed rows of `MUL_3` (rule R132) -/

/-- Row `a` of `MUL_3` is the row printed as these sixteen lines. -/
def mul3RowIs (a : BitVec 8) (rows : List Nat) : Bool :=
  (List.range 256).all fun b => Tables.mul3 a (BitVec.ofNat 8 b) == Tables.lookup 8 16 8 rows b

theorem test_mul3_row0F : mul3RowIs 0x0F
    [0x000F050A0B040E010D0208070609030C,
     0xF0FFF5FAFBF4FEF1FDF2F8F7F6F9F3FC,
     0x505F555A5B545E515D5258575659535C,
     0xA0AFA5AAABA4AEA1ADA2A8A7A6A9A3AC,
     0xB0BFB5BABBB4BEB1BDB2B8B7B6B9B3BC,
     0x404F454A4B444E414D4248474649434C,
     0xE0EFE5EAEBE4EEE1EDE2E8E7E6E9E3EC,
     0x101F151A1B141E111D1218171619131C,
     0xD0DFD5DADBD4DED1DDD2D8D7D6D9D3DC,
     0x202F252A2B242E212D2228272629232C,
     0x808F858A8B848E818D8288878689838C,
     0x707F757A7B747E717D7278777679737C,
     0x606F656A6B646E616D6268676669636C,
     0x909F959A9B949E919D9298979699939C,
     0x303F353A3B343E313D3238373639333C,
     0xC0CFC5CACBC4CEC1CDC2C8C7C6C9C3CC] = true := by decide +kernel

theorem test_mul3_row53 : mul3RowIs 0x53
    [0x0053A1F2DC8F7D2E6437C596B8EB194A,
     0xE5B64417396A98CB81D220735D0EFCAF,
     0x7A29DB88A6F507541E4DBFECC2916330,
     0x9FCC3E6D4310E2B1FBA85A09277486D5,
     0xFDAE5C0F217280D399CA386B4516E4B7,
     0x184BB9EAC49765367C2FDD8EA0F30152,
     0x87D426755B08FAA9E3B042113F6C9ECD,
     0x6231C390BEED1F4C0655A7F4DA897B28,
     0x5605F7A48AD92B78326193C0EEBD4F1C,
     0xB3E012416F3CCE9DD78476250B58AAF9,
     0x2C7F8DDEF0A35102481BE9BA94C73566,
     0xC99A683B1546B4E7ADFE0C5F7122D083,
     0xABF80A597724D685CF9C6E3D1340B2E1,
     0x4E1DEFBC92C133602A798BD8F6A55704,
     0xD18270230D5EACFFB5E61447693AC89B,
     0x346795C6E8BB491A5003F1A28CDF2D7E] = true := by decide +kernel

theorem test_mul3_rowFF : mul3RowIs 0xFF
    [0x00FF55AABB44EE11DD228877669933CC,
     0x4FB01AE5F40BA15E926DC73829D67C83,
     0x857AD02F3EC16B9458A70DF2E31CB649,
     0xCA359F60718E24DB17E842BDAC53F906,
     0x9B64CE3120DF758A46B913ECFD02A857,
     0xD42B817E6F903AC509F65CA3B24DE718,
     0x1EE14BB4A55AF00FC33C966978872DD2,
     0x51AE04FBEA15BF408C73D92637C8629D,
     0xED12B84756A903FC30CF659A8B74DE21,
     0xA25DF70819E64CB37F802AD5C43B916E,
     0x68973DC2D32C8679B54AE01F0EF15BA4,
     0x27D8728D9C63C936FA05AF5041BE14EB,
     0x768923DCCD329867AB54FE0110EF45BA,
     0x39C66C93827DD728E41BB14E5FA00AF5,
     0xF30CA65948B71DE22ED17B84956AC03F,
     0xBC43E91607F852AD619E34CBDA258F70] = true := by decide +kernel

/-! ### The operation counts at 128 bits (rule R160) -/

theorem test_lookups_mul128 : (Tower.mulCounted 7 0x1234 0xABCD).2 = { mul3 := 81, alpha3 := 40 } := by
  decide +kernel
theorem test_lookups_inv128 : (Tower.invCounted 7 0).2 =
    { inverse3 := 1, square3 := 15, mul3 := 120, alpha3 := 69 } := by decide +kernel

/-! ### The host's notation (rules R69 and R70) -/

theorem test_mnemonic : (Instr.mulp32 2).mnemonic = "MULP.32" := by decide +kernel
theorem test_line_word : (Line.command [(0, 7#128)] ⟨.mulp32 2, 1, .name 0, none⟩) =
    some ⟨0x0156, 7, 0⟩ := by decide
/-- An `iota` above 15 is no line: it neither spills into `RSV` (16) nor wraps to 0 (512). -/
theorem test_malformed_iota :
    (issueLines [⟨.mulp8 16, 0, .literal 1, none⟩] 0 [] State.reset).2.2 = .malformed 0 ∧
      (issueLines [⟨.mulp8 512, 0, .literal 1, none⟩] 0 [] State.reset).2.2 = .malformed 0 := by decide
theorem test_malformed_operands : Line.command [] ⟨.sqr8, 0, .literal 1, some (.literal 2)⟩ = none ∧
    Line.command [] ⟨.mul8, 0, .literal 1, none⟩ = none := by decide
theorem test_expand_div : Pseudo.expand 3 (.div 1 (.literal 15) (.literal 0) 0) =
    some [⟨.inv8, 0, .literal 0, none⟩, ⟨.mul8, 1, .literal 15, some (.name 0)⟩] := by decide
theorem test_expand_dec_level0 : Pseudo.expand 0 (.decompose 1 0 (.literal 1)) = none := by decide
/-- Line 7 of program P4 alone: the host stops there. -/
theorem test_stop_at_error :
    (issueLines [⟨.mulp8 4, 6, .literal 0x0F, none⟩] 0 [] State.reset).2.2 = .stopped 0 1 := by decide

/-! ### The host's interface -/

theorem test_first_step_after_reset :
    step (State.reset.withFetchWord 16 0x0042) = exec .mul16 (State.reset.withFetchWord 16 0x0042) := rfl

/-! ### Witnesses -/

theorem witness_StepKeepsHistoryFaithful : ∃ s t : State, s.history ≠ [] ∧ s.historyFaithful ∧
    step s = .next t := by
  refine ⟨⟨0x0042, 0x1234, 0xABCD, [⟨⟨0x0030, 0x1234, 0⟩, .ok 0x34⟩]⟩, _, by decide, ?_, rfl⟩
  intro e he
  obtain rfl := List.mem_singleton.mp he
  decide

theorem witness_StepKeepsResultsFit : ∃ s t : State, s.history ≠ [] ∧ s.resultsFit ∧
    step s = .next t := by
  refine ⟨⟨0x0047, 0x1234, 0, [⟨⟨0x0047, 0xFFFF, 0⟩, .ok 0xFF⟩]⟩, _, by decide, ?_, rfl⟩
  intro e he
  obtain rfl := List.mem_singleton.mp he
  decide

theorem witness_StepRunsDecodedCommand_legal : decode (driven 0x0075 1 0).cmd = .ok .inv128 := rfl
theorem witness_StepRunsDecodedCommand_refused :
    decode (driven 0x0842 1 0).cmd = .error .reservedBits := rfl

theorem witness_ResponseDependsOnCommandOnly : ∃ s t : State, s.cmd = t.cmd ∧ s.a = t.a ∧ s.b = t.b ∧
    s.history ≠ t.history :=
  ⟨driven 0x0042 2 3, (driven 0x0042 2 3).respond (.ok 1), rfl, rfl, rfl, by decide⟩

theorem witness_IllegalWord_rsv : IllegalWord 0x0800 ∧ IllegalWord 0xF800 := by decide
theorem witness_IllegalWord_op : IllegalWord 0x000A ∧ IllegalWord 0x007F := by decide
theorem witness_IllegalWord_iota : IllegalWord 0x0080 ∧ IllegalWord 0x0785 := by decide
theorem witness_IllegalWord_level0 : IllegalWord 0x0007 ∧ IllegalWord 0x0008 ∧ IllegalWord 0x0009 := by decide
theorem witness_legalWords : ¬ IllegalWord 0x0000 ∧ ¬ IllegalWord 0x07F6 ∧ ¬ IllegalWord 0x0017 := by decide
theorem witness_MismatchedWord :
    MismatchedWord 0x0086 ∧ MismatchedWord 0x0476 ∧ ¬ MismatchedWord 0x03F6 := by decide

theorem witness_PortsDoNotInterfere : ∃ (ports : List State) (n m : Nat) (s : State),
    ports[n]? = some s ∧ n ≠ m ∧ m < ports.length :=
  ⟨[State.reset, State.reset], 0, 1, State.reset, rfl, by decide, by decide⟩

/-- `JOIN.16` on operands that agree in the low 8 bits only. -/
theorem witness_UnusedOperandBitsIgnored_join :
    let s := driven 0x0049 0xFF12 0xFF34
    let t := driven 0x0049 0x12 0x34
    s.cmd = t.cmd ∧ s.a ≠ t.a ∧ s.cmd.toNat % 16 = 9 ∧ s.a.toNat % 2 ^ 2 ^ (4 - 1) = t.a.toNat % 2 ^ 2 ^ (4 - 1) ∧
      s.b.toNat % 2 ^ 2 ^ (4 - 1) = t.b.toNat % 2 ^ 2 ^ (4 - 1) := by decide

/-- `INV.16`, a one-operand command, with different B. -/
theorem witness_UnusedOperandBitsIgnored_inv :
    let s := driven 0x0045 0xF1234 0
    let t := driven 0x0045 0x1234 0xABCD
    s.cmd = t.cmd ∧ s.b ≠ t.b ∧ s.cmd.toNat % 16 ∉ [1, 2, 9] ∧
      s.a.toNat % 2 ^ 2 ^ 4 = t.a.toNat % 2 ^ 2 ^ 4 := by decide

theorem witness_DecodeEncodeAgree_wellFormed : (Instr.mulp128 15).wellFormed = true := by decide
theorem witness_DecodeEncodeAgree_word : decode 0x07F6 = .ok (.mulp128 15) := rfl
theorem witness_DecodeEncodeAgree_refused :
    (Instr.mulp1 1).wellFormed = true ∧ (Instr.mulp1 1).level < (Instr.mulp1 1).iota := by decide

theorem witness_InvAnswersInverseOrZero_zero : (driven 0x0045 0x10000 0).a.toNat % 2 ^ 2 ^ 4 = 0 := by decide
theorem witness_MulpAnswersOrRefusesByIota : (4 : Nat) < 16 ∧ 4 ≤ 4 ∧ (0 : Nat) ≤ 4 ∧ 4 < 5 ∧
    (driven 0x0246 0x10000 0).a.toNat % 2 ^ 2 ^ 4 = 0 := by decide
theorem witness_MulpAnswersOrRefusesByIota_rsv : (driven 0x0AC6 0 0).cmd.toNat / 2048 ≠ 0 := by decide
theorem witness_HalvesIllegalAtLevelZero : (driven 0x0007 1 0).cmd = 0x0007 ∧ (driven 0x0008 1 0).cmd = 0x0008 ∧
    (driven 0x0009 1 0).cmd = 0x0009 := by decide

/-- The bounds of the statements on levels: `k < 7`, `j ≤ k`, a chunk position, at their ends. -/
theorem witness_levels_halves : (0 : Nat) < 7 ∧ 6 < 7 ∧ (0 : Nat) ≤ 6 ∧ 6 ≤ 6 ∧ 63 < 2 ^ (6 - 0) := by decide
theorem witness_levels_embedding : (0 : Nat) < 1 ∧ 1 ≤ 7 ∧ 6 < 7 ∧ 7 ≤ 7 := by decide
theorem witness_levels_mulp : (7 : Nat) ≤ 7 ∧ 0 ≤ 7 ∧ 0 < 2 ^ (7 - 7) ∧ 127 < 2 ^ (7 - 0) ∧ 6 < 7 := by decide
/-- A nonzero element at each end of the levels, as the statements on inverses and tables ask. -/
theorem witness_nonzero : (1 : Elem 0) ≠ 0 ∧ (Tower.generator 7) ≠ 0 ∧ (3 : BitVec 2) ≠ 0 ∧ (15 : BitVec 4) ≠ 0 ∧
    (255 : BitVec 8) ≠ 0 := by decide
theorem witness_levels_lookups : (3 : Nat) ≤ 3 ∧ 3 ≤ 7 ∧ 7 ≤ 7 := by decide
theorem witness_ExpLog_indices : (253 : Nat) < 254 ∧ 254 < 255 := by decide
/-- `SQR` takes equal values at equal elements, the hypothesis of its injectivity. -/
theorem witness_SquareInjective : Tower.sqr 4 (0x1234 : Elem 4) = Tower.sqr 4 (0x1234 : Elem 4) := rfl

end Sys2Proof.Tests
end

/-! ## The step is the unit function of rule R71

The command word is read through its fields, each command is the body of its operation at its level, and both halves of
`decode`, legal and refused, are compared with `unitResponse`. The statements about the history follow from the one
equation `step_eq_respond`. -/

namespace Sys2Proof

/-! ### The fields of a command word as numbers -/

theorem opField_toNat (w : CmdWord) : (opField w).toNat = w.toNat % 16 := by
  simp [opField]

theorem lvlField_toNat (w : CmdWord) : (lvlField w).toNat = w.toNat / 16 % 8 := by
  simp [lvlField, Nat.shiftRight_eq_div_pow]

theorem iotaField_toNat (w : CmdWord) : (iotaField w).toNat = w.toNat / 128 % 16 := by
  simp [iotaField, Nat.shiftRight_eq_div_pow]

theorem rsvField_toNat (w : CmdWord) : (rsvField w).toNat = w.toNat / 2048 := by
  have hw := w.isLt
  simp only [rsvField, BitVec.extractLsb'_toNat, Nat.shiftRight_eq_div_pow]
  omega

theorem iotaField_eq_zero_iff (w : CmdWord) : iotaField w = 0 ↔ w.toNat / 128 % 16 = 0 := by
  rw [← iotaField_toNat, ← BitVec.toNat_inj]; rfl

theorem rsvField_eq_zero_iff (w : CmdWord) : rsvField w = 0 ↔ w.toNat / 2048 = 0 := by
  rw [← rsvField_toNat, ← BitVec.toNat_inj]; rfl

/-! ### The decoder, inverted -/

theorem Op.code_of_ofCode {n : Nat} {op : Op} (h : Op.ofCode n = some op) : op.code = n := by
  unfold Op.ofCode at h
  split at h <;> cases h <;> rfl

theorem Op.eq_mulp_of_code {op : Op} (h : op.code = 6) : op = .mulp := by
  cases op <;> simp [Op.code] at h ⊢

theorem Op.le_of_ofCode_none {n : Nat} (h : Op.ofCode n = none) : 10 ≤ n := by
  by_contra hn
  have hall : ∀ m < 10, Op.ofCode m ≠ none := by decide
  exact hall n (by omega) h

/-- Only `MULP` carries an immediate (rule R61). -/
theorem Instr.iota_eq_zero {i : Instr} (h : i.op ≠ .mulp) : i.iota = 0 := by
  cases i with
  | mulp1 | mulp2 | mulp4 | mulp8 | mulp16 | mulp32 | mulp64 | mulp128 => exact absurd rfl h
  | _ => rfl

/-- `HI`, `LO` and `JOIN` stand at levels from 1 (rule R66 (d)). -/
theorem Instr.level_ne_zero {i : Instr} (h : i.op = .hi ∨ i.op = .lo ∨ i.op = .join) : i.level ≠ 0 := by
  cases i <;> simp [Instr.op, Instr.level] at h ⊢

/-- The row of the opcode table at these fields is a command with these fields (rule R65). -/
theorem fields_of_instrOf {op : Op} {k iota : Nat} {i : Instr} (h : instrOf op k iota = some i) :
    i.op = op ∧ i.level = k ∧ (op = .mulp → i.iota = iota) := by
  cases op with
  | mulp =>
    simp only [instrOf, mulpAt] at h
    split at h <;> cases h <;> exact ⟨rfl, rfl, fun _ => rfl⟩
  | _ =>
    simp only [instrOf, consAt, addAt, mulAt, sqrAt, mulaAt, invAt, hiAt, loAt, joinAt] at h
    split at h <;> cases h <;> exact ⟨rfl, rfl, nofun⟩

/-- Up to level 7, the only rows missing from the opcode table are those of rule R66 (d). -/
theorem halves_of_instrOf_none {op : Op} {k iota : Nat} (hk : k < 8) (h : instrOf op k iota = none) :
    op.code ∈ [7, 8, 9] ∧ k = 0 := by
  cases op with
  | hi | lo | join =>
    refine ⟨by decide, ?_⟩
    by_contra h0
    have hpos : 0 < k := Nat.pos_of_ne_zero h0
    interval_cases k <;> cases h
  | _ => interval_cases k <;> cases h

/-- A word that decodes has the fields of its command, and its reserved bits are 0 (rules R61 and R65). -/
theorem fields_of_decode_ok {w : CmdWord} {i : Instr} (h : decode w = .ok i) :
    w.toNat / 2048 = 0 ∧ w.toNat % 16 = i.op.code ∧ w.toNat / 16 % 8 = i.level ∧ w.toNat / 128 % 16 = i.iota := by
  unfold decode at h
  split at h
  · cases h
  next hrsv =>
  rw [not_not, rsvField_eq_zero_iff] at hrsv
  split at h
  · cases h
  next op hop =>
  split at h
  · cases h
  next himm =>
  split at h
  · cases h
  next j hrow =>
  cases h
  obtain ⟨rfl, hk, hiota⟩ := fields_of_instrOf hrow
  rw [lvlField_toNat] at hk
  rw [iotaField_toNat] at hiota
  refine ⟨hrsv, ?_, hk.symm, ?_⟩
  · rw [Op.code_of_ofCode hop, opField_toNat]
  · by_cases hmulp : i.op = .mulp
    · exact (hiota hmulp).symm
    · rw [Instr.iota_eq_zero hmulp, ← iotaField_eq_zero_iff]
      exact not_not.mp fun h0 => himm ⟨hmulp, h0⟩

/-- A word that the decoder refuses is illegal by one of the clauses (a) to (d) of rule R66. -/
theorem illegalWord_of_decode_error {w : CmdWord} {e : DecodeError} (h : decode w = .error e) :
    Machine.IllegalWord w := by
  unfold decode at h
  split at h
  next hrsv =>
    exact .inl fun h0 => hrsv ((rsvField_eq_zero_iff w).mpr h0)
  split at h
  next hop =>
    exact .inr (.inl (opField_toNat w ▸ Op.le_of_ofCode_none hop))
  next op hop =>
  have hcode : op.code = w.toNat % 16 := opField_toNat w ▸ Op.code_of_ofCode hop
  split at h
  next himm =>
    obtain ⟨hmulp, hiota⟩ := himm
    refine .inr (.inr (.inl ⟨fun h6 => hmulp ?_, fun h0 => hiota ((iotaField_eq_zero_iff w).mpr h0)⟩))
    exact Op.eq_mulp_of_code (hcode.trans h6)
  split at h
  next hrow =>
    obtain ⟨hhalf, hk⟩ := halves_of_instrOf_none (lvlField w).isLt hrow
    exact .inr (.inr (.inr ⟨hcode ▸ hhalf, lvlField_toNat w ▸ hk⟩))
  · cases h

end Sys2Proof

namespace Sys2Proof.Machine

/-! ### The halves as numbers -/

theorem Tower.hi_toNat {k : Nat} (x : Elem (k + 1)) : (Tower.hi x).toNat = x.toNat / 2 ^ 2 ^ k := by
  have hx : x.toNat < 2 ^ 2 ^ k * 2 ^ 2 ^ k := by
    rw [← Nat.pow_add, ← Nat.two_mul, ← Nat.pow_succ']
    exact x.isLt
  rw [Tower.hi, BitVec.extractLsb'_toNat, Nat.shiftRight_eq_div_pow]
  exact Nat.mod_eq_of_lt (Nat.div_lt_of_lt_mul hx)

theorem Tower.lo_toNat {k : Nat} (x : Elem (k + 1)) : (Tower.lo x).toNat = x.toNat % 2 ^ 2 ^ k := by
  simp [Tower.lo]

/-- A half shifted into the high place fits the element. -/
theorem Tower.shiftLeft_half_lt {k : Nat} (h : Elem k) : h.toNat <<< 2 ^ k < 2 ^ 2 ^ (k + 1) := by
  rw [Nat.pow_succ', Nat.two_mul]
  exact Nat.shiftLeft_lt h.isLt

theorem Tower.join_toNat {k : Nat} (h l : Elem k) :
    (Tower.join h l).toNat = h.toNat <<< 2 ^ k ||| l.toNat := by
  have hle : 2 ^ k ≤ 2 ^ (k + 1) := Nat.pow_le_pow_right (by decide) (Nat.le_succ k)
  rw [Tower.join, BitVec.toNat_or, BitVec.toNat_shiftLeft, BitVec.toNat_setWidth_of_le hle,
    BitVec.toNat_setWidth_of_le hle, Nat.mod_eq_of_lt (Tower.shiftLeft_half_lt h)]

/-! ### The response of each command -/

/-- The response of an operation at level `k`, in the terms of the tower (rules R96 to R100, R171 to R174 and R195);
`exec_eq_respond` ties it to the commands. -/
def opResponse (op : Op) (k iota : Nat) (c : Command) : Response :=
  let a : Elem k := c.a.setWidth (2 ^ k)
  let b : Elem k := c.b.setWidth (2 ^ k)
  match op with
  | .cons => .ok (a.setWidth 128)
  | .add => .ok ((Tower.add k a b).setWidth 128)
  | .mul => .ok ((Tower.mul k a b).setWidth 128)
  | .sqr => .ok ((Tower.sqr k a).setWidth 128)
  | .mula => .ok ((Tower.alpha k a).setWidth 128)
  | .inv => .ok ((Tower.inv k a).setWidth 128)
  | .mulp =>
    if k < iota then .error .extensionDegreeMismatch
    else .ok ((Tower.mulp k a iota).setWidth 128)
  | .hi => .ok ((Tower.hi (k := k - 1) (c.a.setWidth _)).setWidth 128)
  | .lo => .ok ((Tower.lo (k := k - 1) (c.a.setWidth _)).setWidth 128)
  | .join => .ok ((Tower.join (k := k - 1) (c.a.setWidth _) (c.b.setWidth _)).setWidth 128)

theorem mulpCommand_eq_respond (k iota : Nat) (s : State) :
    mulpCommand k iota s = .next (s.respond (opResponse .mulp k iota s.sample)) := by
  by_cases h : k < iota
  · rw [mulpCommand_mismatch h, opResponse, if_pos h]
  · rw [mulpCommand_legal (Nat.not_lt.mp h), opResponse, if_neg h]; rfl

/-- Every one of the 77 commands answers its operation at its level, and does nothing else (rule R65). -/
theorem exec_eq_respond (i : Instr) (s : State) :
    exec i s = .next (s.respond (opResponse i.op i.level i.iota s.sample)) := by
  cases i with
  | mulp1 iota | mulp2 iota | mulp4 iota | mulp8 iota | mulp16 iota | mulp32 iota | mulp64 iota
  | mulp128 iota => exact mulpCommand_eq_respond _ iota s
  | _ => rfl

/-! ### The unit function on illegal and on legal words -/

theorem unitResponse_of_illegalWord {c : Command} (h : IllegalWord c.cmd) :
    unitResponse c = .error .illegalCommand := by
  unfold unitResponse
  obtain hrsv | hop | ⟨hmulp, hiota⟩ | ⟨hhalf, hk⟩ := h
  · rw [if_pos hrsv]
  · simp only [hop, if_true, ite_self]
  · simp only [hmulp, hiota, ne_eq, not_false_eq_true, and_self, if_true, ite_self]
  · have hop : c.cmd.toNat % 16 = 7 ∨ c.cmd.toNat % 16 = 8 ∨ c.cmd.toNat % 16 = 9 := by
      simpa using hhalf
    simp only [hop, hk, and_self, if_true, ite_self]

/-- `HI` as the shift of rule R71. -/
theorem hi_setWidth_port (j : Nat) (a : PortWord) :
    (Tower.hi (k := j) (a.setWidth _)).setWidth 128 =
      ((a.setWidth (2 ^ (j + 1)) : Elem (j + 1)) >>> 2 ^ j).setWidth 128 := by
  apply BitVec.eq_of_toNat_eq
  rw [BitVec.toNat_setWidth, BitVec.toNat_setWidth, Tower.hi_toNat, BitVec.toNat_ushiftRight,
    Nat.shiftRight_eq_div_pow]

/-- `LO` as the truncation of rule R71. -/
theorem lo_setWidth_port (j : Nat) (a : PortWord) : (Tower.lo (k := j) (a.setWidth _)).setWidth 128 =
    ((a.setWidth (2 ^ (j + 1)) : Elem (j + 1)).setWidth (2 ^ j)).setWidth 128 := by
  apply BitVec.eq_of_toNat_eq
  rw [BitVec.toNat_setWidth, BitVec.toNat_setWidth, Tower.lo_toNat,
    BitVec.toNat_setWidth (2 ^ j)]

/-- `JOIN` as the shift and OR of rule R71. -/
theorem join_setWidth_port {j : Nat} (hj : j + 1 ≤ 7) (a b : PortWord) :
    (Tower.join (k := j) (a.setWidth _) (b.setWidth _)).setWidth 128 =
      ((a.setWidth (2 ^ j)).setWidth 128 <<< 2 ^ j) ||| (b.setWidth (2 ^ j)).setWidth 128 := by
  have hport : 2 ^ (j + 1) ≤ 128 := Nat.pow_le_pow_right (n := 2) (by decide) hj
  have hshift : (a.setWidth (2 ^ j)).toNat <<< 2 ^ j < 2 ^ 128 :=
    (Tower.shiftLeft_half_lt (a.setWidth (2 ^ j))).trans_le (Nat.pow_le_pow_right (by decide) hport)
  have hj' : j ≤ 7 := by omega
  apply BitVec.eq_of_toNat_eq
  rw [setWidth_port_toNat hj, Tower.join_toNat, BitVec.toNat_or, BitVec.toNat_shiftLeft,
    setWidth_port_toNat hj', setWidth_port_toNat hj', Nat.mod_eq_of_lt hshift]

/-- On a word with the fields of a command, the unit function is the response of its operation at its level. -/
theorem unitResponse_of_fields (i : Instr) (c : Command) (hrsv : c.cmd.toNat / 2048 = 0)
    (hop : c.cmd.toNat % 16 = i.op.code) (hk : c.cmd.toNat / 16 % 8 = i.level)
    (hiota : c.cmd.toNat / 128 % 16 = i.iota) :
    unitResponse c = opResponse i.op i.level i.iota c := by
  have himm : i.op ≠ .mulp → i.iota = 0 := Instr.iota_eq_zero
  have hhalf : i.op = .hi ∨ i.op = .lo ∨ i.op = .join → i.level ≠ 0 := Instr.level_ne_zero
  have hmax : i.level ≤ 7 := Laws.level_le_kmax i
  unfold unitResponse
  rw [hk, hiota, hop, hrsv]
  generalize i.op = op, i.level = k, i.iota = iota at *
  cases op with
  | hi | lo | join =>
    obtain ⟨j, rfl⟩ := Nat.exists_eq_succ_of_ne_zero (hhalf (by simp))
    simp [Op.code, opResponse, himm, hi_setWidth_port, lo_setWidth_port, join_setWidth_port hmax]
  | mulp => simp [Op.code, opResponse]
  | _ => simp [Op.code, opResponse, himm]

/-- The unit as one function (rule R71): a step answers the command on the ports with `unitResponse`, and does nothing
else. -/
theorem step_eq_respond (s : State) : step s = .next (s.respond (unitResponse s.sample)) := by
  cases h : decode s.sample.cmd with
  | error e =>
    rw [step_of_decode_error h, unitResponse_of_illegalWord (illegalWord_of_decode_error h)]
  | ok i =>
    obtain ⟨hrsv, hop, hk, hiota⟩ := fields_of_decode_ok h
    have hstep : step s = exec i s := by simp [step, h]
    rw [hstep, exec_eq_respond, unitResponse_of_fields i s.sample hrsv hop hk hiota]

/-! ### The statements about the history -/

/-- Giving the response that rule R71 owes keeps the history faithful. -/
theorem State.historyFaithful_respond {s : State} (h : s.historyFaithful) :
    (s.respond (unitResponse s.sample)).historyFaithful := by
  intro e he
  rw [State.respond_history] at he
  obtain rfl | he := List.mem_cons.mp he
  · rfl
  · exact h e he

/-- Settles O2: the one event that a step adds holds the unit's response to its own command. -/
theorem stepKeepsHistoryFaithful : Obligations.StepKeepsHistoryFaithful := by
  intro s t hs hstep
  rw [step_eq_respond] at hstep
  cases hstep
  exact State.historyFaithful_respond hs

/-- Settles O6: both steps answer the unit function of the same sampled command. -/
theorem responseDependsOnCommandOnly : Obligations.ResponseDependsOnCommandOnly := by
  intro s t hcmd ha hb
  have hsample : t.sample = s.sample := by simp [State.sample, hcmd, ha, hb]
  refine ⟨unitResponse s.sample, step_eq_respond s, ?_⟩
  rw [← hsample]
  exact step_eq_respond t

/-- Settles O9, by induction on the list of commands. -/
theorem serveAnswersInOrder : Obligations.ServeAnswersInOrder := by
  intro cs
  induction cs with
  | nil => exact fun s => ⟨s, rfl, rfl⟩
  | cons c cs ih =>
    intro s
    obtain ⟨t, hserve, hhist⟩ := ih ((s.present c).respond (unitResponse c))
    refine ⟨t, ?_, ?_⟩
    · rw [serve, step_eq_respond, State.sample_present]
      exact hserve
    · simp [hhist]

/-- Settles O1: nothing stands in the history of the reset state. -/
theorem resetHistoryMeetsInvariants : Obligations.ResetHistoryMeetsInvariants := by
  refine ⟨State.reset_history, ?_, ?_⟩ <;> intro e he <;> cases he

end Sys2Proof.Machine

/-! ## Ports side by side

A command moves its own port alone, by the one response that the unit function owes to it. So commands on two ports
write to two places of the row, and on one port each command meets its own response in either order. -/

namespace Sys2Proof.Machine

/-- The state in which the presented command `c` has been answered; `step_present` ties it to the step. -/
def State.answer (c : Command) (s : State) : State := (s.present c).respond (unitResponse c)

/-- A step on a presented command answers it, in every state of the port. -/
theorem step_present (c : Command) (s : State) : step (s.present c) = .next (s.answer c) :=
  step_eq_respond (s.present c)

/-! ### What a command on one port does to the row -/

/-- Serving port `n` answers the command at its place of the row, where there is such a port. -/
theorem servePort_eq_map (n : Nat) (c : Command) (ports : List State) :
    servePort n c ports = ports[n]?.map fun s => ports.set n (s.answer c) := by
  cases h : ports[n]? <;> simp [servePort, h, step_present]

/-- A command on a second port reads its place of the row as it was before the first command. -/
theorem servePort_bind_of_ne {n m : Nat} (hnm : n ≠ m) (c d : Command) (ports : List State) :
    (servePort n c ports).bind (servePort m d) =
      ports[n]?.bind fun s => ports[m]?.map fun t => (ports.set n (s.answer c)).set m (t.answer d) := by
  have hget (s : State) : (ports.set n s)[m]? = ports[m]? := List.getElem?_set_ne hnm
  simp only [servePort_eq_map, Option.bind_map, Function.comp_def, hget]

/-- Commands on two different ports give the same row in either order (rule R215). -/
theorem servePort_comm {n m : Nat} (hnm : n ≠ m) (c d : Command) (ports : List State) :
    (servePort n c ports).bind (servePort m d) = (servePort m d ports).bind (servePort n c) := by
  rw [servePort_bind_of_ne hnm, servePort_bind_of_ne hnm.symm]
  cases ports[n]? with
  | none => cases ports[m]? <;> rfl
  | some s =>
    cases ports[m]? with
    | none => rfl
    | some t => exact congrArg some (List.set_comm (s.answer c) (t.answer d) hnm)

/-- Settles O10: a command writes to its own place of the row only, and on one port `serve` answers each command with
the unit function of that command alone. -/
theorem portsDoNotInterfere : Obligations.PortsDoNotInterfere := by
  refine ⟨fun ports n c s hs => ?_, fun ports n m c d hnm => servePort_comm hnm c d ports, fun s c d => ?_⟩
  · obtain ⟨hlt, -⟩ := List.getElem?_eq_some_iff.mp hs
    have hserve : servePort n c ports = some (ports.set n (s.answer c)) := by
      rw [servePort_eq_map, hs, Option.map_some]
    exact ⟨ports.set n (s.answer c), s.answer c, hserve, step_present c s,
      List.getElem?_set_self hlt, fun m hm => List.getElem?_set_ne hm.symm⟩
  · obtain ⟨t, ht, hthist⟩ := serveAnswersInOrder [c, d] s
    obtain ⟨u, hu, huhist⟩ := serveAnswersInOrder [d, c] s
    exact ⟨t, u, unitResponse c, unitResponse d, ht, hu, hthist, huhist⟩

end Sys2Proof.Machine

/-! ## The command word and its commands, both ways

A word decodes to a command exactly when it carries the fields of that command, and a well-formed command has exactly
one word that carries them: the word of rule R68. -/

namespace Sys2Proof

/-! ### A command is given by its fields -/

theorem Op.ofCode_code (op : Op) : Op.ofCode op.code = some op := by
  cases op <;> rfl

theorem Op.code_injective : Function.Injective Op.code := fun op op' h =>
  Option.some.inj (by rw [← Op.ofCode_code op, h, Op.ofCode_code op'])

theorem Op.code_lt (op : Op) : op.code < 10 := by
  cases op <;> decide

/-- Every command is the row of the opcode table at its own fields (rule R65). -/
theorem instrOf_fields (i : Instr) : instrOf i.op i.level i.iota = some i := by
  cases i <;> rfl

theorem Instr.eq_of_fields {i j : Instr} (hop : i.op = j.op) (hk : i.level = j.level) (hiota : i.iota = j.iota) :
    i = j :=
  Option.some.inj (by rw [← instrOf_fields i, hop, hk, hiota, instrOf_fields j])

/-- A command has an encoding exactly when its immediate fits the field `IOTA` (rule R63). -/
theorem Instr.wellFormed_iff (i : Instr) : i.wellFormed = true ↔ i.iota < 16 := by
  cases i with
  | mulp1 | mulp2 | mulp4 | mulp8 | mulp16 | mulp32 | mulp64 | mulp128 => exact decide_eq_true_iff
  | _ => exact ⟨fun _ => by decide, fun _ => rfl⟩

/-- Only `MULP` can have an immediate above its level. -/
theorem Instr.op_eq_mulp_of_level_lt_iota {i : Instr} (h : i.level < i.iota) : i.op = .mulp := by
  by_contra hop
  rw [Instr.iota_eq_zero hop] at h
  exact Nat.not_lt_zero _ h

/-! ### The words that carry the fields of a command -/

/-- The word holds the operation, the level and the immediate of the command in their fields, and `RSV` is 0 (rule
R61). `decode_eq_ok_iff` ties it to the decoder, `carriesFields_iff` to the encoder. -/
def CarriesFields (w : CmdWord) (i : Instr) : Prop :=
  w.toNat / 2048 = 0 ∧ w.toNat % 16 = i.op.code ∧ w.toNat / 16 % 8 = i.level ∧ w.toNat / 128 % 16 = i.iota

/-- No clause of rule R66 holds of a word with the fields of a command. -/
theorem CarriesFields.not_illegalWord {w : CmdWord} {i : Instr} (h : CarriesFields w i) :
    ¬ Machine.IllegalWord w := by
  obtain ⟨hrsv, hop, hk, hiota⟩ := h
  unfold Machine.IllegalWord
  rw [hop, hk, hiota]
  rintro (hrsv' | hop' | ⟨himm, hiota'⟩ | ⟨hhalf, hlevel⟩)
  · exact hrsv' hrsv
  · exact absurd i.op.code_lt (Nat.not_lt.mpr hop')
  · exact hiota' (Instr.iota_eq_zero fun hmulp => himm (by rw [hmulp]; rfl))
  · refine Instr.level_ne_zero ?_ hlevel
    revert hhalf
    cases i.op <;> decide

/-- A word decodes to the one command whose fields it carries. -/
theorem decode_eq_ok_iff (w : CmdWord) (i : Instr) : decode w = .ok i ↔ CarriesFields w i := by
  refine ⟨fields_of_decode_ok, fun hi => ?_⟩
  cases hdec : decode w with
  | error e => exact absurd (illegalWord_of_decode_error hdec) hi.not_illegalWord
  | ok j =>
    obtain ⟨-, hop, hk, hiota⟩ := hi
    obtain ⟨-, hop', hk', hiota'⟩ := fields_of_decode_ok hdec
    have hji : j = i := Instr.eq_of_fields (Op.code_injective (hop'.symm.trans hop)) (hk'.symm.trans hk)
      (hiota'.symm.trans hiota)
    rw [hji]

/-- The immediate of a decoded command came from a field of 4 bits. -/
theorem wellFormed_of_decode_ok {w : CmdWord} {i : Instr} (h : decode w = .ok i) : i.wellFormed = true := by
  obtain ⟨-, -, -, hiota⟩ := fields_of_decode_ok h
  rw [Instr.wellFormed_iff, ← hiota]
  exact Nat.mod_lt _ (by decide)

/-! ### The word of a command -/

/-- The three fields of rule R68 do not overlap, so the word is their sum at their places. -/
theorem or_eq_sum_of_lt {iota k op : Nat} (hk : k < 8) (hop : op < 16) :
    (iota <<< 7) ||| (k <<< 4) ||| op = iota * 128 + k * 16 + op := by
  have hlow : k * 16 + op < 2 ^ 7 := by omega
  calc (iota <<< 7) ||| (k <<< 4) ||| op
      = iota <<< 7 ||| (k <<< 4 + op) := by
        rw [Nat.or_assoc, Nat.shiftLeft_add_eq_or_of_lt (i := 4) hop]
    _ = iota <<< 7 ||| (k * 16 + op) := by rw [Nat.shiftLeft_eq k]
    _ = iota <<< 7 + (k * 16 + op) := (Nat.shiftLeft_add_eq_or_of_lt hlow iota).symm
    _ = iota * 128 + k * 16 + op := by rw [Nat.shiftLeft_eq, Nat.add_assoc]

theorem Instr.fields_or_eq_sum (i : Instr) : (i.iota <<< 7) ||| (i.level <<< 4) ||| i.op.code =
    i.iota * 128 + i.level * 16 + i.op.code :=
  or_eq_sum_of_lt (Nat.lt_succ_of_le (Laws.level_le_kmax i)) (i.op.code_lt.trans (by decide))

/-- The word of a well-formed command is not cut off at 16 bits (rule R68). -/
theorem encode_toNat {i : Instr} (h : i.wellFormed = true) :
    (encode i).toNat = (i.iota <<< 7) ||| (i.level <<< 4) ||| i.op.code := by
  have hiota : i.iota < 16 := i.wellFormed_iff.mp h
  have hk : i.level ≤ 7 := Laws.level_le_kmax i
  have hop := i.op.code_lt
  rw [encode, BitVec.toNat_ofNat, i.fields_or_eq_sum]
  exact Nat.mod_eq_of_lt (by omega)

/-- A well-formed command has exactly one word that carries its fields, which is `encode i` (rule R68). -/
theorem carriesFields_iff {i : Instr} (h : i.wellFormed = true) (w : CmdWord) :
    CarriesFields w i ↔ encode i = w := by
  have hiota : i.iota < 16 := i.wellFormed_iff.mp h
  have hk : i.level ≤ 7 := Laws.level_le_kmax i
  have hop := i.op.code_lt
  rw [CarriesFields, ← BitVec.toNat_inj, encode_toNat h, i.fields_or_eq_sum]
  omega

theorem decode_encode {i : Instr} (h : i.wellFormed = true) : decode (encode i) = .ok i :=
  (decode_eq_ok_iff _ i).mpr ((carriesFields_iff h _).mpr rfl)

theorem encode_of_decode_ok {w : CmdWord} {i : Instr} (h : decode w = .ok i) : encode i = w :=
  (carriesFields_iff (wellFormed_of_decode_ok h) w).mp ((decode_eq_ok_iff w i).mp h)

end Sys2Proof

namespace Sys2Proof.Machine

/-- A command whose immediate is above its level raises `ExtensionDegreeMismatch` at execution (rules R68 and R191). -/
theorem exec_of_level_lt_iota {i : Instr} (h : i.level < i.iota) (s : State) :
    exec i s = raise .extensionDegreeMismatch s := by
  rw [exec_eq_respond, Instr.op_eq_mulp_of_level_lt_iota h, opResponse, if_pos h, raise_eq]

/-- Settles O12: a word decodes to the command whose fields it carries, and only the encoded word carries them. -/
theorem decodeEncodeAgree : Obligations.DecodeEncodeAgree := by
  refine ⟨fun i hwf => ⟨decode_encode hwf, encode_toNat hwf, Instr.iota_eq_zero⟩,
    fun w i hdec => ⟨wellFormed_of_decode_ok hdec, encode_of_decode_ok hdec⟩, fun i s _ hlevel => ?_⟩
  rw [exec_of_level_lt_iota hlevel]
  exact errs_of_raise .extensionDegreeMismatch s

/-! ## The step on legal and on illegal words -/

theorem step_of_decode_ok {s : State} {i : Instr} (h : decode s.cmd = .ok i) : step s = exec i s := by
  simp [step, State.sample, h]

/-- An illegal word raises `IllegalCommand` (rule R66). -/
theorem step_of_illegalWord {s : State} (h : IllegalWord s.cmd) : step s = raise .illegalCommand s := by
  have hresp : unitResponse s.sample = .error .illegalCommand := unitResponse_of_illegalWord h
  rw [step_eq_respond, hresp, raise_eq]

/-- An illegal word is answered with `STATUS` 2 and `R` 0, and nothing else happens (rules R66 and R205). -/
theorem errs_of_illegalWord {s : State} (h : IllegalWord s.cmd) : Errs s (step s) .illegalCommand 2 := by
  rw [step_of_illegalWord h]
  exact errs_of_raise .illegalCommand s

/-- Settles O4: the one response of a step is the unit function of the sampled command. -/
theorem stepGivesUnitResponse : Obligations.StepGivesUnitResponse := fun s =>
  ⟨s.respond (unitResponse s.sample), step_eq_respond s, State.respond_portR _ _, State.respond_portStatus _ _,
    State.respond_cmd _ _, State.respond_a _ _, State.respond_b _ _, State.respond_history _ _⟩

/-- Settles O7: the decoder refuses none but the words that a clause of rule R66 names. -/
theorem illegalWordsAnsweredOthersDecode : Obligations.IllegalWordsAnsweredOthersDecode := by
  refine ⟨fun s h => errs_of_illegalWord h, fun w hlegal => ?_⟩
  cases hdec : decode w with
  | error e => exact absurd (illegalWord_of_decode_error hdec) hlegal
  | ok i => exact ⟨i, wellFormed_of_decode_ok hdec, rfl⟩

/-- Settles O5: a refused word is one that rule R66 names. -/
theorem stepRunsDecodedCommand : Obligations.StepRunsDecodedCommand :=
  ⟨fun _ _ hdec => step_of_decode_ok hdec,
    fun _ _ hdec => errs_of_illegalWord (illegalWord_of_decode_error hdec)⟩

/-- Settles O13: each printed word carries the fields of its command. -/
theorem specExampleWordsDecode : Obligations.SpecExampleWordsDecode := by
  unfold Obligations.SpecExampleWordsDecode
  simp only [decode_eq_ok_iff, CarriesFields]
  decide

/-! ## The bits that matter: operand and result assembly (rule R64)

On a word that decodes, the unit function is the response of one operation at one level. That response reads the
operands up to their width, and its `R` is 0 from the width of the result on; an error has `R` 0. -/

theorem unitResponse_of_decode_error {c : Command} {e : DecodeError} (h : decode c.cmd = .error e) :
    unitResponse c = .error .illegalCommand :=
  unitResponse_of_illegalWord (illegalWord_of_decode_error h)

theorem unitResponse_of_decode_ok {c : Command} {i : Instr} (h : decode c.cmd = .ok i) :
    unitResponse c = opResponse i.op i.level i.iota c := by
  obtain ⟨hrsv, hop, hk, hiota⟩ := fields_of_decode_ok h
  exact unitResponse_of_fields i c hrsv hop hk hiota

/-! ### The width of the result -/

/-- Zero extension to the port sets no bit above the level's width. -/
theorem setWidth_port_lt {k : Nat} (r : Elem k) : (r.setWidth 128).toNat < 2 ^ 2 ^ k := by
  rw [BitVec.toNat_setWidth]
  exact (Nat.mod_le _ _).trans_lt r.isLt

/-- The width of the result of an operation at level `k` (rule R64); `resultWidth_of_decode_ok` ties it to the word. -/
def opResultWidth (op : Op) (k : Nat) : Nat :=
  match op with
  | .hi | .lo => 2 ^ (k - 1)
  | _ => 2 ^ k

theorem resultWidth_of_decode_ok {w : CmdWord} {i : Instr} (h : decode w = .ok i) :
    resultWidth w = opResultWidth i.op i.level := by
  obtain ⟨-, hop, hk, -⟩ := fields_of_decode_ok h
  unfold resultWidth
  rw [hop, hk]
  cases i.op <;> rfl

/-- The result of a command is 0 from its width on. -/
theorem opResponse_r_lt (i : Instr) (c : Command) :
    (opResponse i.op i.level i.iota c).r.toNat < 2 ^ opResultWidth i.op i.level := by
  have hhalf : i.op = .hi ∨ i.op = .lo ∨ i.op = .join → i.level ≠ 0 := Instr.level_ne_zero
  generalize i.op = op, i.level = k, i.iota = iota at *
  cases op with
  | join =>
    obtain ⟨j, rfl⟩ := Nat.exists_eq_succ_of_ne_zero (hhalf (by simp))
    exact setWidth_port_lt (k := j + 1) _
  | mulp =>
    simp only [opResponse]
    split
    · exact Nat.two_pow_pos _
    · exact setWidth_port_lt _
  | _ => exact setWidth_port_lt _

/-- Every response is 0 from the width of its command word's result on. -/
theorem unitResponse_r_lt (c : Command) : (unitResponse c).r.toNat < 2 ^ resultWidth c.cmd := by
  cases hdec : decode c.cmd with
  | error e =>
    rw [unitResponse_of_decode_error hdec]
    exact Nat.two_pow_pos _
  | ok i =>
    rw [unitResponse_of_decode_ok hdec, resultWidth_of_decode_ok hdec]
    exact opResponse_r_lt i c

/-- Settles O3: the one event that a step adds holds a response that fits its own word. -/
theorem stepKeepsResultsFit : Obligations.StepKeepsResultsFit := by
  intro s t hs hstep
  rw [step_eq_respond] at hstep
  cases hstep
  intro e he
  rw [State.respond_history] at he
  obtain rfl | he := List.mem_cons.mp he
  · exact unitResponse_r_lt s.sample
  · exact hs e he

/-! ### The width of the operands -/

/-- The width of an operand of an operation at level `k`: half the level's width for `JOIN` (rule R64);
`operandWidth_of_decode_ok` ties it to the word. -/
def opOperandWidth (op : Op) (k : Nat) : Nat :=
  match op with
  | .join => 2 ^ (k - 1)
  | _ => 2 ^ k

theorem operandWidth_of_decode_ok {w : CmdWord} {i : Instr} (h : decode w = .ok i) :
    (if w.toNat % 16 = 9 then 2 ^ (w.toNat / 16 % 8 - 1) else 2 ^ (w.toNat / 16 % 8)) =
      opOperandWidth i.op i.level := by
  obtain ⟨-, hop, hk, -⟩ := fields_of_decode_ok h
  rw [hop, hk]
  cases i.op <;> rfl

/-- Two port values that agree below a width give the same operand of that width. -/
theorem setWidth_eq_of_mod_eq {w : Nat} {x y : PortWord} (h : x.toNat % 2 ^ w = y.toNat % 2 ^ w) :
    x.setWidth w = y.setWidth w := by
  apply BitVec.eq_of_toNat_eq
  rw [BitVec.toNat_setWidth, BitVec.toNat_setWidth, h]

/-- The response of a command reads `A` up to the operand width, `B` up to there for `ADD`, `MUL` and `JOIN`, and
nothing else of the ports. -/
theorem opResponse_congr (i : Instr) {c d : Command}
    (ha : c.a.setWidth (opOperandWidth i.op i.level) = d.a.setWidth (opOperandWidth i.op i.level))
    (hb : i.op.code ∈ [1, 2, 9] →
      c.b.setWidth (opOperandWidth i.op i.level) = d.b.setWidth (opOperandWidth i.op i.level)) :
    opResponse i.op i.level i.iota c = opResponse i.op i.level i.iota d := by
  have hhalf : i.op = .hi ∨ i.op = .lo ∨ i.op = .join → i.level ≠ 0 := Instr.level_ne_zero
  generalize i.op = op, i.level = k, i.iota = iota at *
  cases op with
  | hi | lo =>
    obtain ⟨j, rfl⟩ := Nat.exists_eq_succ_of_ne_zero (hhalf (by simp))
    simp only [opOperandWidth] at ha
    simp [opResponse, ha]
  | add | mul | join =>
    have hb := hb (by decide)
    simp only [opOperandWidth] at ha hb
    simp only [opResponse, ha, hb]
  | cons | sqr | mula | inv | mulp =>
    simp only [opOperandWidth] at ha
    simp only [opResponse, ha]

/-- Two commands with the same word whose ports agree on the bits that rule R64 reads get the same response. -/
theorem unitResponse_congr {c d : Command} (hcmd : c.cmd = d.cmd)
    (hbits : ∀ i, decode c.cmd = .ok i →
      c.a.setWidth (opOperandWidth i.op i.level) = d.a.setWidth (opOperandWidth i.op i.level) ∧
        (i.op.code ∈ [1, 2, 9] →
          c.b.setWidth (opOperandWidth i.op i.level) = d.b.setWidth (opOperandWidth i.op i.level))) :
    unitResponse c = unitResponse d := by
  cases hdec : decode c.cmd with
  | error e => rw [unitResponse_of_decode_error hdec, unitResponse_of_decode_error (hcmd ▸ hdec)]
  | ok i =>
    obtain ⟨ha, hb⟩ := hbits i hdec
    rw [unitResponse_of_decode_ok hdec, unitResponse_of_decode_ok (hcmd ▸ hdec), opResponse_congr i ha hb]

/-- Settles O11: both steps give the one response of the operand bits that count, and it fits the result's width. -/
theorem unusedOperandBitsIgnored : Obligations.UnusedOperandBitsIgnored := by
  intro s t hcmd op k w ha hb
  have hresp : unitResponse t.sample = unitResponse s.sample := by
    refine (unitResponse_congr (c := s.sample) (d := t.sample) hcmd fun i hdec => ?_).symm
    have hw : w = opOperandWidth i.op i.level := operandWidth_of_decode_ok hdec
    obtain ⟨-, hop, -, -⟩ := fields_of_decode_ok hdec
    rw [← hw, ← hop]
    exact ⟨setWidth_eq_of_mod_eq ha, fun hreads => setWidth_eq_of_mod_eq (hb hreads)⟩
  refine ⟨unitResponse s.sample, step_eq_respond s, ?_, unitResponse_r_lt s.sample⟩
  rw [← hresp]
  exact step_eq_respond t

end Sys2Proof.Machine

/-! ## Halves and chunks of an element (rules R91 to R93)

An element is its two halves: `hi` and `lo` are quotient and remainder by `2^h`, `join` is their inverse, and an element
is determined by its halves. The chunks of a joined element are read off its bits. -/

namespace Sys2Proof.Machine

/-- The shifted high half and the low half have no bit in common, so OR is addition (rule R92). -/
theorem Tower.join_toNat_eq_add {k : Nat} (h l : Elem k) :
    (Tower.join h l).toNat = h.toNat * 2 ^ 2 ^ k + l.toNat := by
  rw [Tower.join_toNat, ← Nat.shiftLeft_add_eq_or_of_lt l.isLt, Nat.shiftLeft_eq]

@[simp] theorem Tower.hi_join {k : Nat} (h l : Elem k) : Tower.hi (Tower.join h l) = h := by
  apply BitVec.eq_of_toNat_eq
  rw [Tower.hi_toNat, Tower.join_toNat_eq_add, Nat.mul_comm, Nat.mul_add_div (Nat.two_pow_pos _),
    Nat.div_eq_of_lt l.isLt, Nat.add_zero]

@[simp] theorem Tower.lo_join {k : Nat} (h l : Elem k) : Tower.lo (Tower.join h l) = l := by
  apply BitVec.eq_of_toNat_eq
  rw [Tower.lo_toNat, Tower.join_toNat_eq_add, Nat.mul_add_mod_self_right, Nat.mod_eq_of_lt l.isLt]

@[simp] theorem Tower.join_hi_lo {k : Nat} (x : Elem (k + 1)) : Tower.join (Tower.hi x) (Tower.lo x) = x := by
  apply BitVec.eq_of_toNat_eq
  rw [Tower.join_toNat_eq_add, Tower.hi_toNat, Tower.lo_toNat, Nat.div_add_mod']

/-- An element is determined by its halves. -/
theorem Tower.ext_halves {k : Nat} {x y : Elem (k + 1)} (hhi : Tower.hi x = Tower.hi y)
    (hlo : Tower.lo x = Tower.lo y) : x = y := by
  rw [← Tower.join_hi_lo x, hhi, hlo, Tower.join_hi_lo]

/-- The bits of a joined element: the low half below `2^k`, the high half from there on. -/
theorem Tower.getLsbD_join {k : Nat} (h l : Elem k) (n : Nat) :
    (Tower.join h l).getLsbD n = if n < 2 ^ k then l.getLsbD n else h.getLsbD (n - 2 ^ k) := by
  rw [BitVec.getLsbD, Tower.join_toNat, Nat.testBit_or, Nat.testBit_shiftLeft, BitVec.testBit_toNat,
    BitVec.testBit_toNat]
  by_cases hn : n < 2 ^ k
  · simp [hn]
  · simp [hn, Nat.not_lt.mp hn]

/-- A bit of the chunk at a position of the low half stands in the low half. -/
theorem Tower.chunk_bit_lt {j k i n : Nat} (hjk : j ≤ k) (hi : i < 2 ^ (k - j)) (hn : n < 2 ^ j) :
    i * 2 ^ j + n < 2 ^ k :=
  calc i * 2 ^ j + n < (i + 1) * 2 ^ j := by rw [Nat.succ_mul]; omega
    _ ≤ 2 ^ (k - j) * 2 ^ j := Nat.mul_le_mul_right _ hi
    _ = 2 ^ k := by rw [← Nat.pow_add, Nat.sub_add_cancel hjk]

theorem Tower.chunk_join_low {j k i : Nat} (hjk : j ≤ k) (hi : i < 2 ^ (k - j)) (h l : Elem k) :
    Tower.chunk j (Tower.join h l) i = Tower.chunk j l i := by
  apply BitVec.eq_of_getLsbD_eq
  intro n hn
  have hlow := Tower.chunk_bit_lt hjk hi hn
  simp only [Tower.chunk, BitVec.getLsbD_extractLsb', Tower.getLsbD_join, if_pos hlow]

theorem Tower.chunk_join_high {j k : Nat} (hjk : j ≤ k) (h l : Elem k) (i : Nat) :
    Tower.chunk j (Tower.join h l) (i + 2 ^ (k - j)) = Tower.chunk j h i := by
  apply BitVec.eq_of_getLsbD_eq
  intro n _
  have hplace : (i + 2 ^ (k - j)) * 2 ^ j + n = 2 ^ k + (i * 2 ^ j + n) := by
    rw [Nat.add_mul, ← Nat.pow_add, Nat.sub_add_cancel hjk]
    omega
  simp only [Tower.chunk, BitVec.getLsbD_extractLsb', Tower.getLsbD_join, hplace, Nat.not_lt.mpr (Nat.le_add_right _ _),
    if_false, Nat.add_sub_cancel_left]

/-- Settles O24: the halves are quotient and remainder, and the two terms of `join` have no bit in common. -/
theorem halvesAreQuotientAndRemainder : Obligations.HalvesAreQuotientAndRemainder := fun _ _ =>
  ⟨fun x => ⟨Tower.hi_toNat x, Tower.lo_toNat x⟩,
    fun h l => ⟨Tower.join_toNat_eq_add h l, Tower.join_toNat h l⟩⟩

/-- Settles O25: the chunks below position `2^(k-j)` lie in the low half, the others in the high half. -/
theorem decomposeRecomposeRoundTrip : Obligations.DecomposeRecomposeRoundTrip := fun _ _ =>
  ⟨Tower.join_hi_lo, fun h l => ⟨Tower.hi_join h l, Tower.lo_join h l, fun _ hjk i hi =>
    ⟨Tower.chunk_join_low hjk hi h l, Tower.chunk_join_high hjk h l i⟩⟩⟩

end Sys2Proof.Machine

/-! ## The datapath commands (rules R96 to R100)

A command in the row of an operation and a level has one word, and it completes with the response of that operation at
that level. What is left of each statement is the value of that response as a number. -/

namespace Sys2Proof.Machine

/-! ### A row of the opcode table -/

/-- The command stands in the row of operation `op` and level `k` of the opcode table, without an immediate (R65). -/
abbrev IsRow (op : Op) (k : Nat) (i : Instr) : Prop := i.op = op ∧ i.level = k ∧ i.iota = 0

/-- The word `OP | (LVL << 4)` decodes to the command of its row (rule R68). -/
theorem decode_of_isRow {op : Op} {k : Nat} {i : Instr} (h : IsRow op k i) {code : Nat} (hcode : op.code = code) :
    decode (BitVec.ofNat 16 (code ||| k <<< 4)) = .ok i := by
  subst hcode
  obtain ⟨rfl, rfl, hiota⟩ := h
  have hword : encode i = BitVec.ofNat 16 (i.op.code ||| i.level <<< 4) := by
    rw [encode, hiota, Nat.zero_shiftLeft, Nat.zero_or, Nat.or_comm]
  rw [← hword]
  exact decode_encode (i.wellFormed_iff.mpr (by omega))

/-- A command whose operation responds with a result completes with it. -/
theorem completes_of_isRow {op : Op} {k : Nat} {i : Instr} (h : IsRow op k i) {s : State} {r : PortWord}
    {P : PortWord → Prop} (hresp : opResponse op k 0 s.sample = .ok r) (hP : P r) : Completes s (exec i s) P := by
  obtain ⟨rfl, rfl, hiota⟩ := h
  rw [exec_eq_respond, hiota, hresp]
  exact ⟨_, rfl, rfl, hP, rfl, rfl, rfl, rfl⟩

theorem IsRow.level_le {op : Op} {k : Nat} {i : Instr} (h : IsRow op k i) : k ≤ 7 := by
  obtain ⟨-, rfl, -⟩ := h
  exact Laws.level_le_kmax i

/-- The rows of `HI`, `LO` and `JOIN` start at level 1. -/
theorem IsRow.exists_succ {op : Op} {k : Nat} {i : Instr} (h : IsRow op k i)
    (hop : op = .hi ∨ op = .lo ∨ op = .join) : ∃ j, k = j + 1 := by
  obtain ⟨rfl, rfl, -⟩ := h
  exact Nat.exists_eq_succ_of_ne_zero (Instr.level_ne_zero hop)

/-! ### What each command completes with -/

theorem completes_cons {k : Nat} {i : Instr} (h : IsRow .cons k i) (s : State) :
    Completes s (exec i s) fun r => r.toNat = s.a.toNat % 2 ^ 2 ^ k := by
  refine completes_of_isRow h rfl ?_
  exact (setWidth_port_toNat h.level_le _).trans (operandA_toNat s k)

theorem completes_add {k : Nat} {i : Instr} (h : IsRow .add k i) (s : State) :
    Completes s (exec i s) fun r => r.toNat = (s.a.toNat % 2 ^ 2 ^ k) ^^^ (s.b.toNat % 2 ^ 2 ^ k) := by
  refine completes_of_isRow h rfl ?_
  rw [setWidth_port_toNat h.level_le, Tower.add, BitVec.toNat_xor]
  exact congrArg₂ _ (operandA_toNat s k) (operandB_toNat s k)

theorem completes_hi {k : Nat} {i : Instr} (h : IsRow .hi k i) (s : State) :
    Completes s (exec i s) fun r => r.toNat = s.a.toNat % 2 ^ 2 ^ k / 2 ^ 2 ^ (k - 1) := by
  obtain ⟨j, rfl⟩ := h.exists_succ (by simp)
  refine completes_of_isRow h rfl ?_
  rw [setWidth_port_toNat (Nat.le_of_succ_le h.level_le), Tower.hi_toNat]
  exact congrArg (· / _) (operandA_toNat s (j + 1))

theorem completes_lo {k : Nat} {i : Instr} (h : IsRow .lo k i) (s : State) :
    Completes s (exec i s) fun r => r.toNat = s.a.toNat % 2 ^ 2 ^ (k - 1) := by
  obtain ⟨j, rfl⟩ := h.exists_succ (by simp)
  have hdvd : 2 ^ 2 ^ j ∣ 2 ^ 2 ^ (j + 1) :=
    Nat.pow_dvd_pow 2 (Nat.pow_le_pow_right (by decide) (Nat.le_succ j))
  refine completes_of_isRow h rfl ?_
  rw [setWidth_port_toNat (Nat.le_of_succ_le h.level_le), Tower.lo_toNat]
  exact (congrArg (· % _) (operandA_toNat s (j + 1))).trans (Nat.mod_mod_of_dvd _ hdvd)

theorem completes_join {k : Nat} {i : Instr} (h : IsRow .join k i) (s : State) :
    Completes s (exec i s) fun r =>
      r.toNat = s.a.toNat % 2 ^ 2 ^ (k - 1) * 2 ^ 2 ^ (k - 1) + s.b.toNat % 2 ^ 2 ^ (k - 1) := by
  obtain ⟨j, rfl⟩ := h.exists_succ (by simp)
  refine completes_of_isRow h rfl ?_
  rw [setWidth_port_toNat h.level_le, Tower.join_toNat_eq_add]
  exact congrArg₂ (· * _ + ·) (operandA_toNat s j) (operandB_toNat s j)

/-! ### The statements -/

/-- Settles O14: the result is the masked operand itself. -/
theorem consAnswersMaskedOperand : Obligations.ConsAnswersMaskedOperand := by
  intro p hp
  have hrow : IsRow .cons p.2 p.1 := by revert p; decide
  exact ⟨decode_of_isRow hrow rfl, completes_cons hrow⟩

/-- Settles O15: the result is the XOR of the masked operands. -/
theorem addAnswersXor : Obligations.AddAnswersXor := by
  intro p hp
  have hrow : IsRow .add p.2 p.1 := by revert p; decide
  exact ⟨decode_of_isRow hrow rfl, completes_add hrow⟩

/-- Settles O21: the result is the quotient half, and the word of level 0 is illegal by clause (d) of rule R66. -/
theorem hiAnswersHighHalf : Obligations.HiAnswersHighHalf := by
  refine ⟨fun p hp => ?_, fun s hcmd => errs_of_illegalWord (hcmd ▸ by decide)⟩
  have hrow : IsRow .hi p.2 p.1 := by revert p; decide
  exact ⟨decode_of_isRow hrow rfl, completes_hi hrow⟩

/-- Settles O22: the result is the remainder half, and the word of level 0 is illegal by clause (d) of rule R66. -/
theorem loAnswersLowHalf : Obligations.LoAnswersLowHalf := by
  refine ⟨fun p hp => ?_, fun s hcmd => errs_of_illegalWord (hcmd ▸ by decide)⟩
  have hrow : IsRow .lo p.2 p.1 := by revert p; decide
  exact ⟨decode_of_isRow hrow rfl, completes_lo hrow⟩

/-- Settles O23: the result is the joined element, and the word of level 0 is illegal by clause (d) of rule R66. -/
theorem joinAnswersRecomposition : Obligations.JoinAnswersRecomposition := by
  refine ⟨fun p hp => ?_, fun s hcmd => errs_of_illegalWord (hcmd ▸ by decide)⟩
  have hrow : IsRow .join p.2 p.1 := by revert p; decide
  exact ⟨decode_of_isRow hrow rfl, completes_join hrow⟩

end Sys2Proof.Machine

/-! ## The tower at every level

One recursion covers the table levels and the engine (rule R158). With it the laws of the ring (rule R175) are proved
once for all levels, by induction on the level, through the halves of the results. -/

namespace Sys2Proof.Machine

/-! ### The halves of sums and of constants -/

@[simp] theorem Tower.hi_xor {k : Nat} (x y : Elem (k + 1)) : Tower.hi (x ^^^ y) = Tower.hi x ^^^ Tower.hi y := by
  simp [Tower.hi, BitVec.extractLsb'_xor]

@[simp] theorem Tower.lo_xor {k : Nat} (x y : Elem (k + 1)) : Tower.lo (x ^^^ y) = Tower.lo x ^^^ Tower.lo y := by
  simp [Tower.lo, BitVec.extractLsb'_xor]

@[simp] theorem Tower.hi_zero {k : Nat} : Tower.hi 0#(2 ^ (k + 1)) = 0#(2 ^ k) := by simp [Tower.hi]

@[simp] theorem Tower.lo_zero {k : Nat} : Tower.lo 0#(2 ^ (k + 1)) = 0#(2 ^ k) := by simp [Tower.lo]

/-- Every level is wide enough for the bit of 1. -/
theorem Tower.one_toNat (k : Nat) : (1#(2 ^ k)).toNat = 1 :=
  Nat.mod_eq_of_lt (Nat.one_lt_two_pow (Nat.two_pow_pos k).ne')

@[simp] theorem Tower.hi_one {k : Nat} : Tower.hi 1#(2 ^ (k + 1)) = 0#(2 ^ k) := by
  apply BitVec.eq_of_toNat_eq
  rw [Tower.hi_toNat, Tower.one_toNat]
  exact Nat.div_eq_of_lt (Nat.one_lt_two_pow (Nat.two_pow_pos k).ne')

@[simp] theorem Tower.lo_one {k : Nat} : Tower.lo 1#(2 ^ (k + 1)) = 1#(2 ^ k) := by
  apply BitVec.eq_of_toNat_eq
  rw [Tower.lo_toNat, Tower.one_toNat, Tower.one_toNat]
  exact Nat.mod_eq_of_lt (Nat.one_lt_two_pow (Nat.two_pow_pos k).ne')

/-- The generator of a level is the pair (1, 0) (rule R124). -/
theorem Tower.generator_succ (k : Nat) : Tower.generator (k + 1) = Tower.join 1#(2 ^ k) 0#(2 ^ k) := by
  apply BitVec.eq_of_toNat_eq
  have hlt : 2 ^ 2 ^ k < 2 ^ 2 ^ (k + 1) :=
    Nat.pow_lt_pow_right (by decide) (Nat.pow_lt_pow_right (by decide) (Nat.lt_succ_self k))
  rw [Tower.join_toNat_eq_add, Tower.one_toNat, Tower.generator, BitVec.toNat_ofNat, Nat.mod_eq_of_lt hlt]
  simp

/-! ### One recursion for all levels (rule R158)

At levels 1 to 3 these are facts about the transcribed tables, checked entry by entry, but for `MUL_3`, which is defined
by the recursion. -/

theorem Tower.alpha_succ : ∀ (k : Nat) (a : Elem (k + 1)),
    alpha (k + 1) a = join (lo a ^^^ alpha k (hi a)) (hi a)
  | 0 => by decide
  | 1 => by decide
  | 2 => by decide
  | k + 3 => alpha_engine k

theorem Tower.sqr_succ : ∀ (k : Nat) (a : Elem (k + 1)),
    sqr (k + 1) a = join (alpha k (sqr k (hi a))) (sqr k (lo a) ^^^ sqr k (hi a))
  | 0 => by decide
  | 1 => by decide
  | 2 => by decide
  | k + 3 => sqr_engine k

/-- Joining two nibbles is writing them side by side. -/
theorem Tower.append_eq_join (h l : Elem 2) : (h ++ l : Elem 3) = join h l := by
  apply BitVec.eq_of_toNat_eq
  rw [join_toNat]
  exact BitVec.toNat_append h l

theorem Tower.mul_succ : ∀ (k : Nat) (a b : Elem (k + 1)), mul (k + 1) a b =
    join
      (mul k (lo a ^^^ hi a) (lo b ^^^ hi b) ^^^ (mul k (lo a) (lo b) ^^^ mul k (hi a) (hi b))
        ^^^ alpha k (mul k (hi a) (hi b)))
      (mul k (lo a) (lo b) ^^^ mul k (hi a) (hi b))
  | 0 => by decide
  | 1 => by decide
  | 2 => fun _ _ => append_eq_join _ _
  | k + 3 => mul_engine k

/-! ### The generator map is linear -/

/-- An additive map sends 0 to 0. -/
theorem Tower.map_zero_of_xor {j k : Nat} {f : Elem j → Elem k} (h : ∀ a b, f (a ^^^ b) = f a ^^^ f b) :
    f 0#(2 ^ j) = 0#(2 ^ k) := by
  have h0 := h 0#(2 ^ j) 0#(2 ^ j)
  rwa [BitVec.xor_self, BitVec.xor_self] at h0

@[simp] theorem Tower.hi_alpha (k : Nat) (a : Elem (k + 1)) : hi (alpha (k + 1) a) = lo a ^^^ alpha k (hi a) := by
  rw [alpha_succ, hi_join]

@[simp] theorem Tower.lo_alpha (k : Nat) (a : Elem (k + 1)) : lo (alpha (k + 1) a) = hi a := by
  rw [alpha_succ, lo_join]

theorem Tower.alpha_xor (k : Nat) (a b : Elem k) : alpha k (a ^^^ b) = alpha k a ^^^ alpha k b := by
  induction k with
  | zero => rfl
  | succ k ih =>
    apply ext_halves
    · simp only [hi_alpha, hi_xor, lo_xor, ih]
      ac_rfl
    · simp only [lo_alpha, lo_xor, hi_xor]

@[simp] theorem Tower.alpha_zero (k : Nat) : alpha k 0#(2 ^ k) = 0#(2 ^ k) := map_zero_of_xor (alpha_xor k)

/-! ### The product is commutative and bilinear -/

theorem Tower.mul_comm (k : Nat) (a b : Elem k) : mul k a b = mul k b a := by
  induction k with
  | zero => exact BitVec.and_comm a b
  | succ k ih => rw [mul_succ, mul_succ k b, ih (lo a), ih (hi a), ih (lo a ^^^ hi a)]

theorem Tower.mul_xor (k : Nat) (a b c : Elem k) : mul k a (b ^^^ c) = mul k a b ^^^ mul k a c := by
  induction k with
  | zero => revert a b c; decide
  | succ k ih =>
    apply ext_halves
    · simp only [mul_succ, hi_xor, lo_xor, hi_join, ih, alpha_xor]
      ac_rfl
    · simp only [mul_succ, hi_xor, lo_xor, lo_join, ih]
      ac_rfl

theorem Tower.xor_mul (k : Nat) (a b c : Elem k) : mul k (a ^^^ b) c = mul k a c ^^^ mul k b c := by
  rw [mul_comm, mul_xor, mul_comm k c a, mul_comm k c b]

@[simp] theorem Tower.mul_zero (k : Nat) (a : Elem k) : mul k a 0#(2 ^ k) = 0#(2 ^ k) :=
  map_zero_of_xor (mul_xor k a)

@[simp] theorem Tower.zero_mul (k : Nat) (a : Elem k) : mul k 0#(2 ^ k) a = 0#(2 ^ k) := by rw [mul_comm, mul_zero]

/-! ### The halves of a product

With the product bilinear, the three products of rule R151 expand to the four of rule R156. -/

/-- With `BitVec.xor_comm` and `BitVec.xor_assoc`, the ordering rule that brings equal terms of an XOR together. -/
theorem Tower.xor_left_comm {w : Nat} (a b c : BitVec w) : a ^^^ (b ^^^ c) = b ^^^ (a ^^^ c) := by
  rw [← BitVec.xor_assoc, BitVec.xor_comm a b, BitVec.xor_assoc]

@[simp] theorem Tower.lo_mul (k : Nat) (a b : Elem (k + 1)) :
    lo (mul (k + 1) a b) = mul k (lo a) (lo b) ^^^ mul k (hi a) (hi b) := by
  rw [mul_succ, lo_join]

@[simp] theorem Tower.hi_mul (k : Nat) (a b : Elem (k + 1)) : hi (mul (k + 1) a b) =
    mul k (hi a) (lo b) ^^^ mul k (lo a) (hi b) ^^^ alpha k (mul k (hi a) (hi b)) := by
  have hcross : mul k (lo a ^^^ hi a) (lo b ^^^ hi b) ^^^ (mul k (lo a) (lo b) ^^^ mul k (hi a) (hi b)) =
      mul k (hi a) (lo b) ^^^ mul k (lo a) (hi b) := by
    simp only [mul_xor, xor_mul, BitVec.xor_assoc, xor_left_comm, BitVec.xor_comm, xor_cancel_left, BitVec.xor_self,
      BitVec.zero_xor]
  rw [mul_succ, hi_join, hcross]

/-! ### The ring laws through the halves -/

@[simp] theorem Tower.mul_one (k : Nat) (a : Elem k) : mul k a 1#(2 ^ k) = a := by
  induction k with
  | zero => revert a; decide
  | succ k ih => apply ext_halves <;> simp [ih]

/-- The generator map moves out of a product. -/
theorem Tower.alpha_mul (k : Nat) (a b : Elem k) : mul k (alpha k a) b = alpha k (mul k a b) := by
  induction k with
  | zero => rfl
  | succ k ih =>
    apply ext_halves
    · simp only [hi_mul, lo_mul, hi_alpha, lo_alpha, xor_mul, alpha_xor, ih]
      ac_rfl
    · simp only [hi_mul, lo_mul, hi_alpha, lo_alpha, xor_mul, ih]
      ac_rfl

theorem Tower.mul_alpha (k : Nat) (a b : Elem k) : mul k a (alpha k b) = alpha k (mul k a b) := by
  rw [mul_comm, alpha_mul, mul_comm]

theorem Tower.mul_assoc (k : Nat) (a b c : Elem k) : mul k (mul k a b) c = mul k a (mul k b c) := by
  induction k with
  | zero => exact BitVec.and_assoc a b c
  | succ k ih =>
    apply ext_halves
    · simp only [hi_mul, lo_mul, mul_xor, xor_mul, alpha_xor, alpha_mul, mul_alpha, ih]
      ac_rfl
    · simp only [hi_mul, lo_mul, mul_xor, xor_mul, alpha_mul, mul_alpha, ih]
      ac_rfl

theorem Tower.alpha_one (k : Nat) : alpha k 1#(2 ^ k) = generator k := by
  cases k with
  | zero => rfl
  | succ k => rw [alpha_succ, generator_succ]; simp

/-- The generator map is the product with the generator (rule R173). -/
theorem Tower.alpha_eq_mul (k : Nat) (a : Elem k) : alpha k a = mul k a (generator k) := by
  rw [← alpha_one, mul_alpha, mul_one]

theorem Tower.sqr_eq_mul (k : Nat) (a : Elem k) : sqr k a = mul k a a := by
  induction k with
  | zero => exact BitVec.and_self.symm
  | succ k ih =>
    apply ext_halves
    · rw [sqr_succ, hi_join, hi_mul, ih, mul_comm k (hi a) (lo a), BitVec.xor_self, BitVec.zero_xor]
    · rw [sqr_succ, lo_join, lo_mul, ih, ih]

/-! ### The inverse through norm and conjugate

The conjugate replaces the generator of the level by the other root of its equation, and the norm is the product of an
element and its conjugate, which lies one level down. The inverse of rule R154 is the conjugate divided by the norm. -/

/-- The conjugate of an element over the level below; `mul_conj` ties it to the norm. -/
def Tower.conj {k : Nat} (a : Elem (k + 1)) : Elem (k + 1) := join (hi a) (lo a ^^^ alpha k (hi a))

/-- The norm of an element over the level below, `delta` of rule R154; `inv_succ` ties it to the inverse. -/
def Tower.norm {k : Nat} (a : Elem (k + 1)) : Elem k := mul k (lo a) (lo a ^^^ alpha k (hi a)) ^^^ sqr k (hi a)

@[simp] theorem Tower.hi_conj {k : Nat} (a : Elem (k + 1)) : hi (conj a) = hi a := hi_join _ _

@[simp] theorem Tower.lo_conj {k : Nat} (a : Elem (k + 1)) : lo (conj a) = lo a ^^^ alpha k (hi a) := lo_join _ _

/-- Embedding one level up puts 0 into the high half. -/
theorem Tower.embed_succ {k : Nat} (y : Elem k) : embed (k + 1) y = join 0#(2 ^ k) y := by
  have hle : 2 ^ k ≤ 2 ^ (k + 1) := Nat.pow_le_pow_right (by decide) (Nat.le_succ k)
  apply BitVec.eq_of_toNat_eq
  rw [join_toNat_eq_add, embed, BitVec.toNat_setWidth_of_le hle]
  simp

@[simp] theorem Tower.hi_embed {k : Nat} (y : Elem k) : hi (embed (k + 1) y) = 0#(2 ^ k) := by rw [embed_succ, hi_join]

@[simp] theorem Tower.lo_embed {k : Nat} (y : Elem k) : lo (embed (k + 1) y) = y := by rw [embed_succ, lo_join]

theorem Tower.mul_embed_succ {k : Nat} (y z : Elem k) :
    mul (k + 1) (embed (k + 1) y) (embed (k + 1) z) = embed (k + 1) (mul k y z) := by
  apply ext_halves <;> simp

theorem Tower.inv_succ : ∀ (k : Nat) (a : Elem (k + 1)),
    inv (k + 1) a = mul (k + 1) (embed (k + 1) (inv k (norm a))) (conj a)
  | 0 => by decide
  | 1 => by decide
  | 2 => by decide
  | k + 3 => by
    intro a
    by_cases h : a = 0
    · subst h
      have hconj : conj (0 : Elem (k + 4)) = 0 := by apply ext_halves <;> simp
      rw [inv_engine_zero, hconj]
      exact (mul_zero _ _).symm
    · rw [inv_engine k h]
      apply ext_halves <;> simp [norm]

theorem Tower.mul_conj {k : Nat} (a : Elem (k + 1)) : mul (k + 1) a (conj a) = embed (k + 1) (norm a) := by
  apply ext_halves
  · simp [mul_xor, mul_alpha, mul_comm k (hi a) (lo a)]
  · simp [norm, sqr_eq_mul]

theorem Tower.conj_mul {k : Nat} (a b : Elem (k + 1)) :
    conj (mul (k + 1) a b) = mul (k + 1) (conj a) (conj b) := by
  apply ext_halves
  · simp only [hi_conj, hi_mul, lo_conj, mul_xor, xor_mul, alpha_mul, mul_alpha]
    simp only [BitVec.xor_assoc, xor_left_comm, BitVec.xor_comm, xor_cancel_left]
  · simp only [lo_conj, hi_conj, hi_mul, lo_mul, mul_xor, xor_mul, alpha_xor, alpha_mul, mul_alpha]
    ac_rfl

theorem Tower.mul_left_comm (k : Nat) (a b c : Elem k) : mul k a (mul k b c) = mul k b (mul k a c) := by
  rw [← mul_assoc, mul_comm k a b, mul_assoc]

theorem Tower.norm_mul {k : Nat} (a b : Elem (k + 1)) : norm (mul (k + 1) a b) = mul k (norm a) (norm b) := by
  have hembed : embed (k + 1) (norm (mul (k + 1) a b)) = embed (k + 1) (mul k (norm a) (norm b)) := by
    rw [← mul_conj, conj_mul, mul_assoc, mul_left_comm _ b, ← mul_assoc, mul_conj, mul_conj, mul_embed_succ]
  rw [← lo_embed (norm _), hembed, lo_embed]

/-- The inverse of a square times the root is the inverse of the root, 0 included. With the inverse written as conjugate
over norm, this is the same statement about the norm one level down. -/
theorem Tower.inv_self_mul_mul (k : Nat) (a : Elem k) : mul k (inv k (mul k a a)) a = inv k a := by
  induction k with
  | zero => revert a; decide
  | succ k ih =>
    calc mul (k + 1) (inv (k + 1) (mul (k + 1) a a)) a
        = mul (k + 1) (mul (k + 1) (embed (k + 1) (inv k (mul k (norm a) (norm a))))
            (mul (k + 1) (conj a) (conj a))) a := by rw [inv_succ, norm_mul, conj_mul]
      _ = mul (k + 1) (mul (k + 1) (embed (k + 1) (inv k (mul k (norm a) (norm a))))
            (mul (k + 1) a (conj a))) (conj a) := by
          rw [mul_assoc, mul_assoc, mul_assoc, mul_comm _ (conj a) a, mul_assoc, mul_left_comm _ (conj a) a]
      _ = mul (k + 1) (embed (k + 1) (inv k (norm a))) (conj a) := by rw [mul_conj, mul_embed_succ, ih]
      _ = inv (k + 1) a := (inv_succ k a).symm

end Sys2Proof.Machine

/-! ## The subfield embedding (rule R94)

Each operation is compared one level up, where the embedded element has a high half of 0; the step to any higher level
is one induction, the same for every operation. -/

namespace Sys2Proof.Machine

theorem Tower.embed_self {k : Nat} (y : Elem k) : embed k y = y := BitVec.setWidth_eq y

theorem Tower.embed_embed {j m k : Nat} (hjm : j ≤ m) (y : Elem j) : embed k (embed m y) = embed k y := by
  have hle : 2 ^ j ≤ 2 ^ m := Nat.pow_le_pow_right (by decide) hjm
  apply BitVec.eq_of_toNat_eq
  rw [embed, embed, embed, BitVec.toNat_setWidth, BitVec.toNat_setWidth_of_le hle, BitVec.toNat_setWidth]

/-- An operation that commutes with the embedding one level up commutes with it to every higher level. An operation of
one operand stands here as one that ignores its second. -/
theorem Tower.embed_commutes {f : (k : Nat) → Elem k → Elem k → Elem k}
    (hsucc : ∀ k y z, f (k + 1) (embed (k + 1) y) (embed (k + 1) z) = embed (k + 1) (f k y z))
    {j k : Nat} (hjk : j ≤ k) (y z : Elem j) : f k (embed k y) (embed k z) = embed k (f j y z) := by
  induction k, hjk using Nat.le_induction with
  | base => rw [embed_self, embed_self, embed_self]
  | succ k hjk ih =>
    rw [← embed_embed hjk y, ← embed_embed hjk z, hsucc, ih, embed_embed hjk]

/-! ### One level up -/

theorem Tower.add_embed_succ {k : Nat} (y z : Elem k) :
    add (k + 1) (embed (k + 1) y) (embed (k + 1) z) = embed (k + 1) (add k y z) := by
  apply ext_halves <;> simp [add]

theorem Tower.sqr_embed_succ {k : Nat} (y : Elem k) : sqr (k + 1) (embed (k + 1) y) = embed (k + 1) (sqr k y) := by
  rw [sqr_eq_mul, mul_embed_succ, sqr_eq_mul]

theorem Tower.conj_embed_succ {k : Nat} (y : Elem k) : conj (embed (k + 1) y) = embed (k + 1) y := by
  apply ext_halves <;> simp

theorem Tower.norm_embed_succ {k : Nat} (y : Elem k) : norm (embed (k + 1) y) = mul k y y := by
  simp [norm, sqr_eq_mul]

theorem Tower.inv_embed_succ {k : Nat} (y : Elem k) : inv (k + 1) (embed (k + 1) y) = embed (k + 1) (inv k y) := by
  rw [inv_succ, norm_embed_succ, conj_embed_succ, mul_embed_succ, inv_self_mul_mul]

/-! ### Zero, one, and the generator -/

theorem Tower.embed_zero (j k : Nat) : embed k 0#(2 ^ j) = 0#(2 ^ k) := by simp [embed]

theorem Tower.embed_one (j k : Nat) : embed k 1#(2 ^ j) = 1#(2 ^ k) := by
  apply BitVec.eq_of_toNat_eq
  rw [embed, BitVec.toNat_setWidth, one_toNat, one_toNat]
  exact Nat.mod_eq_of_lt (Nat.one_lt_two_pow (Nat.two_pow_pos k).ne')

/-- The generator of a level lies in no lower level: its high half is 1, that of an embedded element is 0. -/
theorem Tower.generator_ne_embed {j k : Nat} (hjk : j < k) (y : Elem j) : generator k ≠ embed k y := by
  obtain ⟨m, rfl⟩ := Nat.exists_eq_succ_of_ne_zero (Nat.ne_zero_of_lt hjk)
  intro h
  have hhi := congrArg hi h
  rw [generator_succ, hi_join, ← embed_embed (Nat.le_of_lt_succ hjk), hi_embed] at hhi
  have hone := one_toNat m
  rw [hhi] at hone
  exact absurd hone (by simp)

/-- Settles O26: four operations commute with the embedding one level up, hence to every higher level; `alpha` gives the
generator of its own level, which lies in no lower one. -/
theorem embeddingCommutesWithOperations : Obligations.EmbeddingCommutesWithOperations := by
  intro j k hjk _ y z
  have hle : j ≤ k := hjk.le
  refine ⟨Tower.embed_commutes (fun _ => Tower.add_embed_succ) hle y z,
    Tower.embed_commutes (fun _ => Tower.mul_embed_succ) hle y z,
    Tower.embed_commutes (f := fun k y _ => Tower.sqr k y) (fun _ y _ => Tower.sqr_embed_succ y) hle y z,
    Tower.embed_commutes (f := fun k y _ => Tower.inv k y) (fun _ y _ => Tower.inv_embed_succ y) hle y z,
    Tower.embed_zero j k, Tower.embed_one j k, Tower.alpha_eq_mul k _, ?_⟩
  have hgen : Tower.alpha k (Tower.embed k (1 : Elem j)) = Tower.generator k :=
    (congrArg (Tower.alpha k) (Tower.embed_one j k)).trans (Tower.alpha_one k)
  rw [hgen]
  exact Tower.generator_ne_embed hjk _

end Sys2Proof.Machine

/-! ## The lookup tables (rules R121, R122 and R131)

The tables are the tower at levels 1 to 3, so the identities of rule R121 are its ring laws, and the entries of
`INVERSE` alone are checked one by one. `EXP` turns sums of exponents into products, which ties the second organisation
of the level-3 tables to the first. -/

namespace Sys2Proof.Machine

/-! ### The contract -/

/-- An element other than 0 times its inverse is 1. Up to level 3 the entries of `INVERSE` can be checked one by one. -/
theorem Tower.mul_inv_of_le_three : ∀ k ≤ 3, ∀ a : Elem k, a ≠ 0 → mul k a (inv k a) = 1
  | 0, _ => by decide
  | 1, _ => by decide
  | 2, _ => by decide
  | 3, _ => by decide
  | k + 4, h => absurd h (by omega)

/-- The four identities of rule R121. -/
theorem Tower.contract_of_le_three {k : Nat} (hk : k ≤ 3) (a b : Elem k) :
    mul k a b = mul k b a ∧ sqr k a = mul k a a ∧ alpha k a = mul k a (generator k) ∧
      (a ≠ 0 → mul k a (inv k a) = 1) :=
  ⟨mul_comm k a b, sqr_eq_mul k a, alpha_eq_mul k a, mul_inv_of_le_three k hk a⟩

/-- Settles O28: the tables are the tower at the levels 1, 2 and 3. -/
theorem tablesMeetTheContract : Obligations.TablesMeetTheContract :=
  ⟨Tower.contract_of_le_three (k := 1) (by decide), Tower.contract_of_le_three (k := 2) (by decide),
    Tower.contract_of_le_three (k := 3) (by decide), by decide, by decide, by decide⟩

/-! ### The inverse is unique

Conjugate and norm respect products, so at every level a product that is 1 gives the inverse of its factors, with no
need to know which elements have one. -/

@[simp] theorem Tower.conj_one (k : Nat) : conj 1#(2 ^ (k + 1)) = 1#(2 ^ (k + 1)) := by
  apply ext_halves <;> simp

@[simp] theorem Tower.norm_one (k : Nat) : norm 1#(2 ^ (k + 1)) = 1#(2 ^ k) := by
  simp [norm, sqr_eq_mul]

theorem Tower.inv_eq_of_mul_eq_one {k : Nat} {a x : Elem k} (h : mul k a x = 1#(2 ^ k)) : inv k a = x := by
  induction k with
  | zero => revert a x; decide
  | succ k ih =>
    have hnorm : mul k (norm a) (norm x) = 1#(2 ^ k) := by rw [← norm_mul, h, norm_one]
    calc inv (k + 1) a
        = mul (k + 1) (mul (k + 1) x (conj x)) (conj a) := by rw [inv_succ, ih hnorm, mul_conj]
      _ = mul (k + 1) x (conj (mul (k + 1) a x)) := by rw [mul_assoc, conj_mul, mul_comm _ (conj x)]
      _ = x := by rw [h, conj_one, mul_one]

/-! ### Exponents and logarithms -/

/-- An index of `EXP` is an 8-bit word other than 255, so the entries can be checked word by word. -/
theorem Tables.forall_index {P : Nat → Prop} (h : ∀ x : BitVec 8, x.toNat < 255 → P x.toNat) {i : Nat}
    (hi : i < 255) : P i := by
  have hword : (BitVec.ofNat 8 i).toNat = i := Nat.mod_eq_of_lt (by omega)
  have hx := h (BitVec.ofNat 8 i)
  rw [hword] at hx
  exact hx hi

/-- One step along `EXP`, the last one back to `EXP[0]`: the base has order 255. -/
theorem Tables.exp_succ_mod {i : Nat} : i < 255 → exp ((i + 1) % 255) = mul3 (exp i) 0x13 :=
  forall_index (P := fun i => exp ((i + 1) % 255) = mul3 (exp i) 0x13) (by decide)

theorem Tables.log_exp {i : Nat} : i < 255 → log (exp i) = i :=
  forall_index (P := fun i => log (exp i) = i) (by decide)

theorem Tables.log_lt : ∀ a : BitVec 8, log a < 255 := by decide

theorem Tables.exp_log : ∀ a : BitVec 8, a ≠ 0 → exp (log a) = a := by decide

/-- A sum of exponents is a product of powers, by induction on the second exponent. -/
theorem Tables.exp_add_mod {i j : Nat} (hi : i < 255) (hj : j < 255) :
    exp ((i + j) % 255) = mul3 (exp i) (exp j) := by
  induction j with
  | zero =>
    rw [Nat.add_zero, Nat.mod_eq_of_lt hi]
    exact (Tower.mul_one 3 (exp i)).symm
  | succ j ih =>
    have hj' : j < 255 := Nat.lt_of_succ_lt hj
    calc exp ((i + (j + 1)) % 255)
        = exp (((i + j) % 255 + 1) % 255) := by rw [← Nat.add_assoc, Nat.mod_add_mod]
      _ = mul3 (mul3 (exp i) (exp j)) 0x13 := by rw [exp_succ_mod (Nat.mod_lt _ (by decide)), ih hj']
      _ = mul3 (exp i) (mul3 (exp j) 0x13) := Tower.mul_assoc 3 (exp i) (exp j) 0x13
      _ = mul3 (exp i) (exp (j + 1)) := by rw [← exp_succ_mod hj', Nat.mod_eq_of_lt hj]

/-! ### The operations of level 3 on logarithms -/

theorem Tables.mul3_eq_exp {a b : BitVec 8} (ha : a ≠ 0) (hb : b ≠ 0) :
    mul3 a b = exp ((log a + log b) % 255) := by
  rw [exp_add_mod (log_lt a) (log_lt b), exp_log a ha, exp_log b hb]

/-- The product of rule R131, with 0, which has no logarithm, as a case of its own. -/
theorem Tables.mul3_eq_ite (a b : BitVec 8) :
    mul3 a b = if a = 0 ∨ b = 0 then 0 else exp ((log a + log b) % 255) := by
  split
  next h =>
    obtain rfl | rfl := h
    · exact Tower.zero_mul 3 b
    · exact Tower.mul_zero 3 a
  next h =>
    obtain ⟨ha, hb⟩ := not_or.mp h
    exact mul3_eq_exp ha hb

theorem Tables.square3_eq_exp {a : BitVec 8} (ha : a ≠ 0) : square3 a = exp (2 * log a % 255) := by
  rw [Nat.two_mul, ← mul3_eq_exp ha ha]
  exact Tower.sqr_eq_mul 3 a

/-- The negated logarithm gives an element whose product with `a` is `EXP[0]`, so it gives the inverse. -/
theorem Tables.inverse3_eq_exp {a : BitVec 8} (ha : a ≠ 0) : inverse3 a = exp ((255 - log a) % 255) := by
  have hlog : log a < 255 := log_lt a
  have hsum : (log a + (255 - log a) % 255) % 255 = 0 := by
    rw [Nat.add_mod_mod, Nat.add_sub_cancel' hlog.le]
  have hprod : mul3 a (exp ((255 - log a) % 255)) = exp 0 := by
    rw [← hsum, exp_add_mod hlog (Nat.mod_lt _ (by decide)), exp_log a ha]
  exact Tower.inv_eq_of_mul_eq_one (k := 3) hprod

/-- Settles O29: `EXP` lists the powers of 0x13, `LOG` undoes it, and the operations of level 3 are those on the
exponents. -/
theorem expLogReproducesLevelThree : Obligations.ExpLogReproducesLevelThree := by
  refine ⟨by decide, fun i hi => ?_, fun i => Tables.log_exp, fun a b =>
    ⟨Tables.mul3_eq_ite a b, fun ha => ⟨Tables.inverse3_eq_exp ha, Tables.square3_eq_exp ha⟩⟩⟩
  have hmod : (i + 1) % 255 = i + 1 := Nat.mod_eq_of_lt (by omega)
  rw [← Tables.exp_succ_mod (by omega : i < 255), hmod]

end Sys2Proof.Machine

/-! ## The engine's formulas and the algebra behind them (rules R151 to R158)

The recursion of the tower holds at every level, so the printed tables satisfy the formulas of the engine. Read through
the halves, the same formulas are the product of pairs modulo the quadratic of the level. -/

namespace Sys2Proof.Machine

/-! ### The inverse as a pair (rule R154) -/

/-- The two halves of rule R154, also at 0, where both are 0: the test for zero changes no result. -/
theorem Tower.inv_succ_eq_join (k : Nat) (a : Elem (k + 1)) : inv (k + 1) a =
    join (mul k (inv k (norm a)) (hi a)) (mul k (inv k (norm a)) (lo a ^^^ alpha k (hi a))) := by
  rw [inv_succ]
  apply ext_halves <;> simp

@[simp] theorem Tower.inv_zero (k : Nat) : inv k 0#(2 ^ k) = 0#(2 ^ k) := by
  cases k with
  | zero => rfl
  | succ k =>
    rw [inv_succ_eq_join]
    apply ext_halves <;> simp

/-- At level 0 the product AND is the product of the numbers (rule R112). -/
theorem Tower.mul_level_zero_toNat (a b : Elem 0) : (mul 0 a b).toNat = a.toNat * b.toNat := by
  revert a b
  decide

/-- Settles O27: each formula is the recursion of its operation, which covers tables and engine together. -/
theorem recursionHoldsAtEveryLevel : Obligations.RecursionHoldsAtEveryLevel :=
  ⟨fun a b => ⟨Tower.mul_level_zero_toNat a b, rfl, rfl, rfl⟩, fun k _ a b =>
    ⟨Tower.mul_succ k a b, Tower.sqr_succ k a, Tower.alpha_succ k a, Tower.inv_zero (k + 1),
      fun _ => Tower.inv_succ_eq_join k a⟩⟩

/-! ### The quotient ring (rule R156) -/

@[simp] theorem Tower.hi_generator (k : Nat) : hi (generator (k + 1)) = 1#(2 ^ k) := by rw [generator_succ, hi_join]

@[simp] theorem Tower.lo_generator (k : Nat) : lo (generator (k + 1)) = 0#(2 ^ k) := by rw [generator_succ, lo_join]

/-- The pair `(a1, a0)` is `a1 * alpha + a0`. -/
theorem Tower.join_eq_mul_generator_xor {k : Nat} (a1 a0 : Elem k) :
    join a1 a0 = mul (k + 1) (embed (k + 1) a1) (generator (k + 1)) ^^^ embed (k + 1) a0 := by
  apply ext_halves <;> simp

/-- The schoolbook product of two pairs, with `alpha^2` replaced by `alpha * ALPHA_k + 1`. -/
theorem Tower.mul_join {k : Nat} (a1 a0 b1 b0 : Elem k) : mul (k + 1) (join a1 a0) (join b1 b0) =
    join (mul k a1 b0 ^^^ mul k a0 b1 ^^^ mul k (generator k) (mul k a1 b1)) (mul k a0 b0 ^^^ mul k a1 b1) := by
  apply ext_halves
  · rw [hi_mul, hi_join, hi_join, lo_join, lo_join, hi_join, alpha_eq_mul, mul_comm k (generator k)]
  · rw [lo_mul, hi_join, hi_join, lo_join, lo_join, lo_join]

@[simp] theorem Tower.one_mul (k : Nat) (a : Elem k) : mul k 1#(2 ^ k) a = a := by rw [mul_comm, mul_one]

/-- The generator of a level is a root of the quadratic of that level. -/
theorem Tower.generator_mul_self (k : Nat) : mul (k + 1) (generator (k + 1)) (generator (k + 1)) =
    mul (k + 1) (generator (k + 1)) (embed (k + 1) (generator k)) ^^^ 1#(2 ^ (k + 1)) := by
  apply ext_halves <;> simp [alpha_one]

/-- Settles O30: pair, product and quadratic, each read off the two halves. -/
theorem productIsQuotientRingProduct : Obligations.ProductIsQuotientRingProduct := fun k _ =>
  ⟨Tower.join_eq_mul_generator_xor, Tower.mul_join, Tower.generator_mul_self k⟩

end Sys2Proof.Machine

/-! ## The work of an operation (rules R160 and R238)

A counted operation returns the result of the operation itself and a number of lookups that is a function of the level.
The numbers satisfy the recursion that the formulas dictate; each operation is one induction over the engine levels. -/

namespace Sys2Proof.Machine

/-! ### The numbers of lookups at level `n + 3` -/

/-- The lookups of `alpha` at every level from 3 on; `alphaCounted_eq` ties them to the operation. -/
def Tower.alphaLookups : Lookups := { alpha3 := 1 }

/-- The lookups of `sqr` at level `n + 3`; `sqrCounted_eq` ties them to the operation. -/
def Tower.sqrLookups (n : Nat) : Lookups := { square3 := 2 ^ n, alpha3 := 2 ^ n - 1 }

/-- The lookups of `mul` at level `n + 3`; `mulCounted_eq` ties them to the operation. -/
def Tower.mulLookups (n : Nat) : Lookups := { mul3 := 3 ^ n, alpha3 := (3 ^ n - 1) / 2 }

/-- The lookups of `inv` at level `n + 3`; `invCounted_eq` ties them to the operation. -/
def Tower.invLookups (n : Nat) : Lookups :=
  { inverse3 := 1, square3 := 2 ^ n - 1, mul3 := (3 ^ (n + 1) - 3) / 2,
    alpha3 := ((3 ^ (n + 1) - 3) / 2 - 3 * n) / 2 + (2 ^ n - 1) }

theorem Lookups.ext_counts {x y : Lookups} (hmul : x.mul3 = y.mul3) (hsquare : x.square3 = y.square3)
    (halpha : x.alpha3 = y.alpha3) (hinverse : x.inverse3 = y.inverse3) : x = y := by
  cases x
  cases y
  simp_all

/-- The remainder of a power of 3 on which the divisions in the counts of `mul` and `inv` rest. -/
theorem exists_three_pow_eq (n : Nat) : ∃ d, 3 ^ n = 4 * d + 2 * n + 1 := by
  induction n with
  | zero => exact ⟨0, rfl⟩
  | succ n ih =>
    obtain ⟨d, hd⟩ := ih
    exact ⟨3 * d + n, by rw [Nat.pow_succ, hd]; omega⟩

/-- Two squarings one level down and one generator map (rule R152). -/
theorem Tower.sqrLookups_succ (n : Nat) :
    ((sqrLookups n).plus (sqrLookups n)).plus alphaLookups = sqrLookups (n + 1) := by
  have hpos : 0 < 2 ^ n := Nat.two_pow_pos n
  apply Lookups.ext_counts <;> simp [sqrLookups, alphaLookups, Nat.pow_succ] <;> omega

/-- Three products one level down and one generator map (rule R151). -/
theorem Tower.mulLookups_succ (n : Nat) :
    (((mulLookups n).plus (mulLookups n)).plus (mulLookups n)).plus alphaLookups = mulLookups (n + 1) := by
  obtain ⟨d, hd⟩ := exists_three_pow_eq n
  apply Lookups.ext_counts <;> simp [mulLookups, alphaLookups, Nat.pow_succ] <;> omega

/-- One generator map, one product, one square and one inverse one level down, then two products (rule R154). -/
theorem Tower.invLookups_succ (n : Nat) :
    ((((alphaLookups.plus (mulLookups n)).plus (sqrLookups n)).plus (invLookups n)).plus (mulLookups n)).plus
      (mulLookups n) = invLookups (n + 1) := by
  have hpos : 0 < 2 ^ n := Nat.two_pow_pos n
  obtain ⟨d, hd⟩ := exists_three_pow_eq n
  apply Lookups.ext_counts <;> simp [invLookups, mulLookups, sqrLookups, alphaLookups, Nat.pow_succ] <;> omega

/-! ### Each counted operation gives its result and its number of lookups -/

theorem Tower.alphaCounted_eq : ∀ (n : Nat) (a : Elem (n + 3)), alphaCounted (n + 3) a = (alpha (n + 3) a, alphaLookups)
  | 0, _ => rfl
  | n + 1, a => by
    change alphaCounted (n + 4) a = (alpha (n + 4) a, _)
    rw [alphaCounted, alphaCounted_eq n, alpha_engine]

theorem Tower.sqrCounted_eq : ∀ (n : Nat) (a : Elem (n + 3)), sqrCounted (n + 3) a = (sqr (n + 3) a, sqrLookups n)
  | 0, _ => rfl
  | n + 1, a => by
    change sqrCounted (n + 4) a = (sqr (n + 4) a, _)
    rw [← sqrLookups_succ, sqr_engine]
    simp only [sqrCounted, sqrCounted_eq n, alphaCounted_eq n]

theorem Tower.mulCounted_eq : ∀ (n : Nat) (a b : Elem (n + 3)),
    mulCounted (n + 3) a b = (mul (n + 3) a b, mulLookups n)
  | 0, _, _ => rfl
  | n + 1, a, b => by
    change mulCounted (n + 4) a b = (mul (n + 4) a b, _)
    rw [← mulLookups_succ, mul_engine]
    simp only [mulCounted, mulCounted_eq n, alphaCounted_eq n]

/-- Without its test for zero the inverse is still that of rule R154, since its formula gives 0 at 0. -/
theorem Tower.invCounted_eq : ∀ (n : Nat) (a : Elem (n + 3)), invCounted (n + 3) a = (inv (n + 3) a, invLookups n)
  | 0, _ => rfl
  | n + 1, a => by
    change invCounted (n + 4) a = (inv (n + 4) a, _)
    rw [← invLookups_succ, inv_succ_eq_join (n + 3)]
    simp only [invCounted, invCounted_eq n, mulCounted_eq n, sqrCounted_eq n, alphaCounted_eq n, norm]

/-- Settles O36: a level from 3 on is `n + 3`, and there each counted operation gives its result and its lookups. -/
theorem lookupsDependOnLevelOnly : Obligations.LookupsDependOnLevelOnly := by
  intro k hk _ a b
  obtain ⟨n, rfl⟩ := Nat.exists_eq_add_of_le' hk
  exact ⟨Tower.mulCounted_eq n a b, Tower.sqrCounted_eq n a, Tower.alphaCounted_eq n a, Tower.invCounted_eq n a⟩

end Sys2Proof.Machine

/-! ## The field laws (rule R175)

With the ring laws at hand, a field asks for one fact more: no element but 0 has norm 0, which says that the quadratic
of each level has no root in the level below (rule R156). The trace to GF(2) shows it. It takes the same value on a
square as on its root, and the value 1 on the inverse of the generator, while a root would write the square of that
inverse as `u^2 + u`. -/

namespace Sys2Proof.Machine

/-! ### The maps that send only 0 to 0 -/

/-- An additive map that sends only 0 to 0 is injective. -/
theorem Tower.injective_of_xor {j k : Nat} {f : Elem j → Elem k} (hadd : ∀ a b, f (a ^^^ b) = f a ^^^ f b)
    (hzero : ∀ a, f a = 0#(2 ^ k) → a = 0#(2 ^ j)) {a b : Elem j} (h : f a = f b) : a = b := by
  have hdiff : f (a ^^^ b) = 0#(2 ^ k) := by rw [hadd, h, BitVec.xor_self]
  exact BitVec.xor_eq_zero_iff.mp (hzero _ hdiff)

theorem Tower.eq_zero_of_alpha_eq_zero {k : Nat} {a : Elem k} (h : alpha k a = 0#(2 ^ k)) : a = 0#(2 ^ k) := by
  cases k with
  | zero => exact h
  | succ k =>
    have hhi : hi a = 0#(2 ^ k) := by rw [← lo_alpha, h, lo_zero]
    have hlo : lo a ^^^ alpha k (hi a) = 0#(2 ^ k) := by rw [← hi_alpha, h, hi_zero]
    rw [hhi, alpha_zero, BitVec.xor_zero] at hlo
    apply ext_halves
    · rw [hhi, hi_zero]
    · rw [hlo, lo_zero]

theorem Tower.sqr_xor (k : Nat) (a b : Elem k) : sqr k (a ^^^ b) = sqr k a ^^^ sqr k b := by
  simp only [sqr_eq_mul, mul_xor, xor_mul, mul_comm k b a, BitVec.xor_assoc, xor_cancel_left]

@[simp] theorem Tower.hi_sqr (k : Nat) (a : Elem (k + 1)) : hi (sqr (k + 1) a) = alpha k (sqr k (hi a)) := by
  rw [sqr_succ, hi_join]

@[simp] theorem Tower.lo_sqr (k : Nat) (a : Elem (k + 1)) : lo (sqr (k + 1) a) = sqr k (lo a) ^^^ sqr k (hi a) := by
  rw [sqr_succ, lo_join]

@[simp] theorem Tower.sqr_zero (k : Nat) : sqr k 0#(2 ^ k) = 0#(2 ^ k) := map_zero_of_xor (sqr_xor k)

theorem Tower.eq_zero_of_sqr_eq_zero {k : Nat} {a : Elem k} (h : sqr k a = 0#(2 ^ k)) : a = 0#(2 ^ k) := by
  induction k with
  | zero => exact h
  | succ k ih =>
    have hhi : hi a = 0#(2 ^ k) := ih (eq_zero_of_alpha_eq_zero (by rw [← hi_sqr, h, hi_zero]))
    have hlo : sqr k (lo a) ^^^ sqr k (hi a) = 0#(2 ^ k) := by rw [← lo_sqr, h, lo_zero]
    rw [hhi, sqr_zero, BitVec.xor_zero] at hlo
    apply ext_halves
    · rw [hhi, hi_zero]
    · rw [ih hlo, lo_zero]

/-! ### The trace to GF(2) -/

/-- The trace to level 0. The two roots of the quadratic of level `k + 1` add up to `ALPHA_k`, so the trace of a pair
one level down is `ALPHA_k` times its high half; `trace_sqr` ties it to squaring and `trace_of_alpha_eq_one` to the
generator. -/
def Tower.trace : (k : Nat) → Elem k → Elem 0
  | 0, a => a
  | k + 1, a => trace k (alpha k (hi a))

theorem Tower.trace_xor (k : Nat) (a b : Elem k) : trace k (a ^^^ b) = trace k a ^^^ trace k b := by
  induction k with
  | zero => rfl
  | succ k ih => simp only [trace, hi_xor, alpha_xor, ih]

theorem Tower.sqr_alpha (k : Nat) (a : Elem k) : sqr k (alpha k a) = alpha k (alpha k (sqr k a)) := by
  simp only [sqr_eq_mul, alpha_mul, mul_alpha]

theorem Tower.trace_sqr (k : Nat) (a : Elem k) : trace k (sqr k a) = trace k a := by
  induction k with
  | zero => rfl
  | succ k ih => rw [trace, hi_sqr, ← sqr_alpha, ih, trace]

theorem Tower.trace_generator (k : Nat) : trace k (generator k) = 1#(2 ^ 0) := by
  induction k with
  | zero => rfl
  | succ k ih => rw [trace, hi_generator, alpha_one, ih]

/-- The inverse of the generator has trace 1: its high half is 1. -/
theorem Tower.trace_of_alpha_eq_one {k : Nat} {x : Elem k} (h : alpha k x = 1#(2 ^ k)) : trace k x = 1#(2 ^ 0) := by
  cases k with
  | zero => exact h
  | succ k =>
    have hhi : hi x = 1#(2 ^ k) := by rw [← lo_alpha, h, lo_one]
    rw [trace, hhi, alpha_one, trace_generator]

/-! ### The inverse of every element other than 0 -/

theorem Tower.one_ne_zero (k : Nat) : 1#(2 ^ k) ≠ 0#(2 ^ k) := by
  intro h
  have hone := one_toNat k
  rw [h] at hone
  exact absurd hone (by simp)

/-- A norm of 0 with a high half other than 0 would be a root of the quadratic. With `d` the product of the generator
and the high half `h`, and `l` the low half, it says `l^2 + l*d = h^2`. Divided by `d^2`, the left side is
`u^2 + u` for `u = l/d`, of trace 0, and the right side is the square of the inverse of the generator, of trace 1. -/
theorem Tower.norm_ne_zero_of_hi {k : Nat} (hinv : ∀ x : Elem k, x ≠ 0#(2 ^ k) → mul k x (inv k x) = 1#(2 ^ k))
    {a : Elem (k + 1)} (hhi : hi a ≠ 0#(2 ^ k)) : norm a ≠ 0#(2 ^ k) := by
  intro hnorm
  obtain ⟨i, hunit⟩ : ∃ i, mul k (alpha k (hi a)) i = 1#(2 ^ k) :=
    ⟨_, hinv _ fun h => hhi (eq_zero_of_alpha_eq_zero h)⟩
  have hroot : mul k (lo a) (lo a ^^^ alpha k (hi a)) = sqr k (hi a) := BitVec.xor_eq_zero_iff.mp hnorm
  have hsquare : sqr k (mul k (hi a) i) = sqr k (mul k (lo a) i) ^^^ mul k (lo a) i := by
    calc sqr k (mul k (hi a) i)
        = mul k (mul k (lo a) (lo a ^^^ alpha k (hi a))) (mul k i i) := by
          rw [hroot, sqr_eq_mul, sqr_eq_mul, mul_assoc, mul_left_comm k i, mul_assoc]
      _ = mul k (mul k (lo a) i) (mul k (lo a ^^^ alpha k (hi a)) i) := by
          rw [mul_assoc, mul_assoc, mul_left_comm k i]
      _ = sqr k (mul k (lo a) i) ^^^ mul k (lo a) i := by rw [xor_mul, hunit, mul_xor, mul_one, sqr_eq_mul]
  have htrace : trace k (mul k (hi a) i) = 1#(2 ^ 0) := trace_of_alpha_eq_one (by rw [← alpha_mul, hunit])
  rw [← trace_sqr, hsquare, trace_xor, trace_sqr, BitVec.xor_self] at htrace
  exact one_ne_zero 0 htrace.symm

theorem Tower.eq_zero_of_norm_eq_zero {k : Nat}
    (hinv : ∀ x : Elem k, x ≠ 0#(2 ^ k) → mul k x (inv k x) = 1#(2 ^ k)) {a : Elem (k + 1)}
    (h : norm a = 0#(2 ^ k)) : a = 0#(2 ^ (k + 1)) := by
  have hhi : hi a = 0#(2 ^ k) := by
    by_contra hne
    exact norm_ne_zero_of_hi hinv hne h
  have hlo : sqr k (lo a) = 0#(2 ^ k) := by
    rw [← h, norm, hhi, alpha_zero, sqr_zero, BitVec.xor_zero, BitVec.xor_zero, sqr_eq_mul]
  apply ext_halves
  · rw [hhi, hi_zero]
  · rw [eq_zero_of_sqr_eq_zero hlo, lo_zero]

/-- Conjugate over norm is the inverse, by induction on the level: the norm is not 0 and lies one level down. -/
theorem Tower.mul_inv_of_ne_zero : ∀ (k : Nat) (a : Elem k), a ≠ 0#(2 ^ k) → mul k a (inv k a) = 1#(2 ^ k)
  | 0 => by decide
  | k + 1 => by
    intro a ha
    have hnorm : norm a ≠ 0#(2 ^ k) := fun h => ha (eq_zero_of_norm_eq_zero (mul_inv_of_ne_zero k) h)
    rw [inv_succ, mul_left_comm, mul_conj, mul_embed_succ, mul_comm, mul_inv_of_ne_zero k _ hnorm, embed_one]

theorem Tower.inv_eq_zero_iff {k : Nat} (a : Elem k) : inv k a = 0#(2 ^ k) ↔ a = 0#(2 ^ k) := by
  constructor
  · intro h
    by_contra ha
    have hone := mul_inv_of_ne_zero k a ha
    rw [h, mul_zero] at hone
    exact one_ne_zero k hone.symm
  · rintro rfl
    exact inv_zero k

theorem Tower.inv_inv {k : Nat} (a : Elem k) : inv k (inv k a) = a := by
  by_cases ha : a = 0#(2 ^ k)
  · rw [ha, inv_zero, inv_zero]
  · exact inv_eq_of_mul_eq_one (by rw [mul_comm, mul_inv_of_ne_zero k a ha])

@[simp] theorem Tower.inv_one (k : Nat) : inv k 1#(2 ^ k) = 1#(2 ^ k) := inv_eq_of_mul_eq_one (mul_one k _)

/-- The generator as a number (rule R124). -/
theorem Tower.generator_toNat (k : Nat) : (generator k).toNat = if k = 0 then 1 else 2 ^ 2 ^ (k - 1) := by
  cases k with
  | zero => rfl
  | succ k => simp [generator_succ, join_toNat_eq_add]

/-! ### The statements -/

/-- Settles O31: addition is XOR, and the laws of the product hold by induction on the level. -/
theorem everyLevelIsACommutativeRing : Obligations.EveryLevelIsACommutativeRing := fun k _ a b c =>
  ⟨BitVec.xor_zero, BitVec.xor_self, BitVec.xor_comm a b, BitVec.xor_assoc a b c, Tower.mul_one k a,
    Tower.mul_zero k a, Tower.mul_comm k a b, Tower.mul_assoc k a b c, Tower.mul_xor k a b c⟩

/-- Settles O32: squaring is additive and sends only 0 to 0, so it is injective. -/
theorem squareIsLinearBijectiveSelfProduct : Obligations.SquareIsLinearBijectiveSelfProduct := fun k _ a b =>
  ⟨Tower.sqr_eq_mul k a, Tower.sqr_xor k a b,
    Tower.injective_of_xor (Tower.sqr_xor k) fun _ => Tower.eq_zero_of_sqr_eq_zero, Tower.sqr_zero k,
    (Tower.sqr_eq_mul k _).trans (Tower.mul_one k _)⟩

/-- Settles O33: the generator map is the product with its own value at 1. -/
theorem alphaIsLinearGeneratorProduct : Obligations.AlphaIsLinearGeneratorProduct := fun k _ =>
  ⟨fun a b => ⟨Tower.alpha_eq_mul k a, Tower.alpha_xor k a b⟩, Tower.alpha_zero k, Tower.alpha_one k,
    Tower.generator_toNat k⟩

/-- Settles O34: no element but 0 has norm 0, so the inverse of rule R154 is one at every level. -/
theorem everyNonzeroElementHasItsInverse : Obligations.EveryNonzeroElementHasItsInverse := fun k _ =>
  ⟨fun a => ⟨Tower.mul_inv_of_ne_zero k a, Tower.inv_eq_zero_iff a, Tower.inv_inv a⟩, Tower.inv_zero k,
    Tower.inv_one k⟩

end Sys2Proof.Machine

/-! ## The arithmetic commands (rules R171 to R174)

Each command completes with its operation of the tower on the masked operands; what the field laws say of the operation
then holds of the result on the port. -/

namespace Sys2Proof.Machine

theorem completes_mul {k : Nat} {i : Instr} (h : IsRow .mul k i) (s : State) : Completes s (exec i s) fun r =>
    r = (Tower.mul k (s.a.setWidth (2 ^ k)) (s.b.setWidth (2 ^ k))).setWidth 128 ∧ r.toNat < 2 ^ 2 ^ k :=
  completes_of_isRow h rfl ⟨rfl, setWidth_port_lt _⟩

theorem completes_sqr {k : Nat} {i : Instr} (h : IsRow .sqr k i) (s : State) : Completes s (exec i s) fun r =>
    r = (Tower.sqr k (s.a.setWidth (2 ^ k))).setWidth 128 ∧
      r = (Tower.mul k (s.a.setWidth (2 ^ k)) (s.a.setWidth (2 ^ k))).setWidth 128 :=
  completes_of_isRow h rfl ⟨rfl, congrArg (BitVec.setWidth 128) (Tower.sqr_eq_mul k _)⟩

theorem completes_mula {k : Nat} {i : Instr} (h : IsRow .mula k i) (s : State) : Completes s (exec i s) fun r =>
    r = (Tower.alpha k (s.a.setWidth (2 ^ k))).setWidth 128 ∧
      r = (Tower.mul k (s.a.setWidth (2 ^ k)) (Tower.generator k)).setWidth 128 :=
  completes_of_isRow h rfl ⟨rfl, congrArg (BitVec.setWidth 128) (Tower.alpha_eq_mul k _)⟩

/-- Inverting an operand whose bits below the width are all 0 is no error (rule R203). -/
theorem completes_inv {k : Nat} {i : Instr} (h : IsRow .inv k i) (s : State) : Completes s (exec i s) fun r =>
    r = (Tower.inv k (s.a.setWidth (2 ^ k))).setWidth 128 ∧ (s.a.toNat % 2 ^ 2 ^ k = 0 → r = 0) := by
  refine completes_of_isRow h rfl ⟨rfl, fun hmask => ?_⟩
  have hzero : s.operandA k = 0#(2 ^ k) := BitVec.eq_of_toNat_eq ((operandA_toNat s k).trans hmask)
  calc (Tower.inv k (s.operandA k)).setWidth 128
      = (0#(2 ^ k)).setWidth 128 := by rw [hzero, Tower.inv_zero]
    _ = 0 := BitVec.setWidth_zero _ _

/-- Settles O16: the result is the field product of the masked operands, and it fits the width. -/
theorem mulAnswersFieldProduct : Obligations.MulAnswersFieldProduct := by
  intro p hp
  have hrow : IsRow .mul p.2 p.1 := by revert p; decide
  exact ⟨decode_of_isRow hrow rfl, completes_mul hrow⟩

/-- Settles O17: the result is the square of the masked operand, which is its product by itself. -/
theorem sqrAnswersFieldSquare : Obligations.SqrAnswersFieldSquare := by
  intro p hp
  have hrow : IsRow .sqr p.2 p.1 := by revert p; decide
  exact ⟨decode_of_isRow hrow rfl, completes_sqr hrow⟩

/-- Settles O18: the result is the generator map of the masked operand, which is its product with the generator. -/
theorem mulaAnswersGeneratorProduct : Obligations.MulaAnswersGeneratorProduct := by
  intro p hp
  have hrow : IsRow .mula p.2 p.1 := by revert p; decide
  exact ⟨decode_of_isRow hrow rfl, completes_mula hrow⟩

/-- Settles O19: the result is the inverse of the masked operand, and 0 for 0. -/
theorem invAnswersInverseOrZero : Obligations.InvAnswersInverseOrZero := by
  intro p hp
  have hrow : IsRow .inv p.2 p.1 := by revert p; decide
  exact ⟨decode_of_isRow hrow rfl, completes_inv hrow⟩

end Sys2Proof.Machine

/-! ## Primitive multiplication (rules R190 to R196)

The generator of a level up to `k`, carried into level `k + 1`, has a high half of 0, so `mulp` acts on each half by
itself, down to its own level, where it is the generator map. The recursive form and the form on chunks are two readings
of that one recursion. -/

namespace Sys2Proof.Machine

/-! ### The ends of the range of iota, and the recursion between them -/

/-- At its own level primitive multiplication is the generator map (rule R192). -/
theorem Tower.mulp_self (k : Nat) (x : Elem k) : mulp k x k = alpha k x := by
  rw [mulp, embed_self, alpha_eq_mul]

/-- The generator of level 0 is 1, in every level (rule R196). -/
theorem Tower.mulp_iota_zero (k : Nat) (x : Elem k) : mulp k x 0 = x := by
  have hone : embed k (generator 0) = 1#(2 ^ k) := embed_one 0 k
  rw [mulp, hone, mul_one]

theorem Tower.mulp_zero (k iota : Nat) : mulp k 0#(2 ^ k) iota = 0#(2 ^ k) := zero_mul k _

/-- Below its own level primitive multiplication acts on each half by itself (rule R194). -/
theorem Tower.mulp_succ {iota k : Nat} (h : iota ≤ k) (x : Elem (k + 1)) :
    mulp (k + 1) x iota = join (mulp k (hi x) iota) (mulp k (lo x) iota) := by
  rw [mulp, ← embed_embed h]
  apply ext_halves <;> simp [mulp]

/-- On an embedded element the product is that of the lower level (rule R193). -/
theorem Tower.mulp_embed {iota k : Nat} (h : iota ≤ k) (y : Elem iota) :
    mulp k (embed k y) iota = embed k (alpha iota y) := by
  rw [mulp, alpha_eq_mul]
  exact embed_commutes (fun _ => mul_embed_succ) h y (generator iota)

/-! ### The recursive form (rule R194) -/

theorem Tower.mulpByHalves_self (k : Nat) (x : Elem k) : mulpByHalves k x k = alpha k x := by
  cases k with
  | zero => rfl
  | succ k => rw [mulpByHalves, if_pos rfl]

theorem Tower.mulpByHalves_succ {iota k : Nat} (h : iota ≤ k) (x : Elem (k + 1)) :
    mulpByHalves (k + 1) x iota = join (mulpByHalves k (hi x) iota) (mulpByHalves k (lo x) iota) := by
  rw [mulpByHalves, if_neg (Nat.ne_of_lt (Nat.lt_succ_of_le h))]

theorem Tower.mulp_eq_mulpByHalves {iota k : Nat} (h : iota ≤ k) (x : Elem k) :
    mulp k x iota = mulpByHalves k x iota := by
  induction k, h using Nat.le_induction with
  | base => rw [mulp_self, mulpByHalves_self]
  | succ k h ih => rw [mulp_succ h, mulpByHalves_succ h, ih, ih]

/-! ### The form on chunks (rule R194) -/

theorem Tower.chunk_self {k : Nat} (x : Elem k) : chunk k x 0 = x := by
  rw [chunk, Nat.zero_mul, BitVec.extractLsb'_eq_self]

/-- `mulp` is the generator map on each level-`iota` chunk, by induction on the levels from `iota` up. -/
theorem Tower.chunk_mulp {iota k : Nat} (h : iota ≤ k) (x : Elem k) {i : Nat} (hlt : i < 2 ^ (k - iota)) :
    chunk iota (mulp k x iota) i = alpha iota (chunk iota x i) := by
  induction k, h using Nat.le_induction generalizing i with
  | base =>
    have hi0 : i = 0 := by simpa using hlt
    rw [hi0, chunk_self, chunk_self, mulp_self]
  | succ k h ih =>
    rw [mulp_succ h]
    conv_rhs => rw [← join_hi_lo x]
    by_cases hlow : i < 2 ^ (k - iota)
    · rw [chunk_join_low h hlow, chunk_join_low h hlow, ih (lo x) hlow]
    · obtain ⟨n, rfl⟩ := Nat.exists_eq_add_of_le' (Nat.not_lt.mp hlow)
      rw [Nat.succ_sub h, Nat.pow_succ'] at hlt
      rw [chunk_join_high h, chunk_join_high h, ih (hi x) (by omega)]

/-- Settles O35: the forms of rules R192 to R196 are read off the recursion of `mulp` on the halves. -/
theorem mulpFormsAgree : Obligations.MulpFormsAgree := fun k _ x =>
  ⟨Tower.mulp_self k x, Tower.mulp_iota_zero k x,
    fun _ hle => ⟨Tower.mulp_eq_mulpByHalves hle x, fun _ hlt => Tower.chunk_mulp hle x hlt⟩,
    fun _ hlt y => Tower.mulp_embed hlt.le y⟩

/-! ### The command (rules R191 and R195) -/

/-- The command stands in the row of `MULP` at level `k` of the opcode table and carries `iota` (rule R195). -/
abbrev IsMulp (k iota : Nat) (i : Instr) : Prop := i.op = .mulp ∧ i.level = k ∧ i.iota = iota

theorem IsMulp.level_le {k iota : Nat} {i : Instr} (h : IsMulp k iota i) : k ≤ 7 := by
  obtain ⟨-, rfl, -⟩ := h
  exact Laws.level_le_kmax i

/-- The word `6 | (k << 4) | (iota << 7)` decodes to the command of its fields (rule R68). -/
theorem decode_of_isMulp {k iota : Nat} {i : Instr} (h : IsMulp k iota i) (hiota : iota < 16) :
    decode (BitVec.ofNat 16 (6 ||| k <<< 4 ||| iota <<< 7)) = .ok i := by
  obtain ⟨hop, rfl, rfl⟩ := h
  have hword : encode i = BitVec.ofNat 16 (6 ||| i.level <<< 4 ||| i.iota <<< 7) := by
    rw [encode, hop, Nat.or_assoc, Nat.or_comm, Nat.or_comm (i.level <<< 4)]
    rfl
  rw [← hword]
  exact decode_encode (i.wellFormed_iff.mpr hiota)

/-- A port whose bits below the width are all 0 gives the operand 0. -/
theorem operandA_eq_zero {s : State} {k : Nat} (h : s.a.toNat % 2 ^ 2 ^ k = 0) : s.operandA k = 0#(2 ^ k) :=
  BitVec.eq_of_toNat_eq ((operandA_toNat s k).trans h)

/-- Up to its level, `MULP` completes with the product by the generator of level `iota`. -/
theorem completes_mulp {k iota : Nat} {i : Instr} (h : IsMulp k iota i) (hle : iota ≤ k) {s : State}
    {P : PortWord → Prop} (hP : P ((Tower.mulp k (s.operandA k) iota).setWidth 128)) : Completes s (exec i s) P := by
  obtain ⟨hop, rfl, rfl⟩ := h
  rw [exec_eq_respond, hop, ← mulpCommand_eq_respond, mulpCommand, if_neg (Nat.not_lt.mpr hle)]
  exact completes_of_complete hP

/-- Above its level, `MULP` is refused whatever the operand is (rule R191). -/
theorem errs_mulp {k iota : Nat} {i : Instr} (h : IsMulp k iota i) (hlt : k < iota) (s : State) :
    Errs s (exec i s) .extensionDegreeMismatch 1 := by
  obtain ⟨-, rfl, rfl⟩ := h
  rw [exec_of_level_lt_iota hlt]
  exact errs_of_raise .extensionDegreeMismatch s

/-- Settles O20: up to the level the command completes with `mulp`, above it is refused, and a word with `RSV` other
than 0 is illegal by clause (a) of rule R66. -/
theorem mulpAnswersOrRefusesByIota : Obligations.MulpAnswersOrRefusesByIota := by
  refine ⟨fun p hp iota => ?_, fun s hrsv => errs_of_illegalWord (.inl hrsv)⟩
  have hrow : IsMulp p.2 iota (p.1 iota) := by
    simp only [List.mem_cons, List.not_mem_nil, or_false] at hp
    obtain rfl | rfl | rfl | rfl | rfl | rfl | rfl | rfl := hp <;> exact ⟨rfl, rfl, rfl⟩
  refine ⟨decode_of_isMulp hrow, fun hle s => completes_mulp hrow hle ⟨rfl, ?_, ?_, ?_⟩, errs_mulp hrow⟩
  · intro hself
    rw [hself, Tower.mulp_self]
    rfl
  · intro hzero
    rw [hzero, Tower.mulp_iota_zero, setWidth_port_toNat hrow.level_le, operandA_toNat]
  · intro hmask
    rw [operandA_eq_zero hmask, Tower.mulp_zero]
    exact BitVec.setWidth_zero _ _

end Sys2Proof.Machine

/-! ## The status codes (rules R200 to R206)

Every word is illegal, mismatched, or neither, and the three kinds of word are answered with `IllegalCommand`,
`ExtensionDegreeMismatch` and a result. -/

namespace Sys2Proof.Machine

/-- A word that decodes is mismatched exactly when the immediate of its command is above the level; the operation is
then `MULP` (rule R201). -/
theorem mismatchedWord_iff_of_decode_ok {w : CmdWord} {i : Instr} (h : decode w = .ok i) :
    MismatchedWord w ↔ i.level < i.iota := by
  have hlegal : ¬ IllegalWord w := ((decode_eq_ok_iff w i).mp h).not_illegalWord
  obtain ⟨-, hop, hk, hiota⟩ := fields_of_decode_ok h
  unfold MismatchedWord
  rw [hop, hk, hiota]
  refine ⟨fun ⟨_, _, hlt⟩ => hlt, fun hlt => ⟨hlegal, ?_, hlt⟩⟩
  rw [Instr.op_eq_mulp_of_level_lt_iota hlt]
  rfl

theorem exists_decode_ok_of_not_illegalWord {w : CmdWord} (h : ¬ IllegalWord w) : ∃ i, decode w = .ok i := by
  obtain ⟨i, -, hdec⟩ := illegalWordsAnsweredOthersDecode.2 w h
  exact ⟨i, hdec⟩

/-- The only check that an operation makes of its own is that of `MULP` on its immediate (rules R191 and R204). -/
theorem exists_opResponse_eq_ok (op : Op) {k iota : Nat} (h : iota ≤ k) (c : Command) :
    ∃ r, opResponse op k iota c = .ok r := by
  cases op with
  | mulp => exact ⟨_, if_neg (Nat.not_lt.mpr h)⟩
  | _ => exact ⟨_, rfl⟩

theorem unitResponse_of_mismatchedWord {c : Command} (h : MismatchedWord c.cmd) :
    unitResponse c = .error .extensionDegreeMismatch := by
  obtain ⟨i, hdec⟩ := exists_decode_ok_of_not_illegalWord h.1
  have hlt : i.level < i.iota := (mismatchedWord_iff_of_decode_ok hdec).mp h
  rw [unitResponse_of_decode_ok hdec, Instr.op_eq_mulp_of_level_lt_iota hlt, opResponse, if_pos hlt]

/-- Every other word completes: rules R201 and R202 name all the errors there are (rule R204). -/
theorem exists_unitResponse_eq_ok {c : Command} (hlegal : ¬ IllegalWord c.cmd) (hmatch : ¬ MismatchedWord c.cmd) :
    ∃ r, unitResponse c = .ok r := by
  obtain ⟨i, hdec⟩ := exists_decode_ok_of_not_illegalWord hlegal
  rw [mismatchedWord_iff_of_decode_ok hdec, Nat.not_lt] at hmatch
  rw [unitResponse_of_decode_ok hdec]
  exact exists_opResponse_eq_ok i.op hmatch c

/-- Settles O8: the three kinds of word exclude each other, and each has its own code. -/
theorem statusCodesExact : Obligations.StatusCodesExact := by
  intro s
  refine ⟨s.respond (unitResponse s.sample), step_eq_respond s, ?_⟩
  rw [State.respond_portStatus, State.respond_portR]
  by_cases hill : IllegalWord s.cmd
  · have hmis : ¬ MismatchedWord s.cmd := fun h => h.1 hill
    rw [unitResponse_of_illegalWord (c := s.sample) hill]
    exact ⟨iff_of_true rfl hill, iff_of_false (by decide) hmis, iff_of_false (by decide) fun h => h.1 hill,
      by decide, fun _ => rfl⟩
  by_cases hmis : MismatchedWord s.cmd
  · rw [unitResponse_of_mismatchedWord (c := s.sample) hmis]
    exact ⟨iff_of_false (by decide) hill, iff_of_true rfl hmis, iff_of_false (by decide) fun h => h.2 hmis,
      by decide, fun _ => rfl⟩
  · obtain ⟨r, hr⟩ := exists_unitResponse_eq_ok (c := s.sample) hill hmis
    rw [hr, Response.ok_status]
    exact ⟨iff_of_false (by decide) hill, iff_of_false (by decide) hmis, iff_of_true rfl ⟨hill, hmis⟩,
      by decide, fun h => absurd rfl h⟩

end Sys2Proof.Machine
